-- ==== Sys2Proof/Word.lean ====
section
/-! DEFINITION. The word types of the decoder: the byte (00_scope.md R6, R7) and the 13-bit dispatch word (30_encoding.md
R85). -/

namespace Sys2Proof

/-- An unsigned 8-bit value: an event's byte, an address, a length, an identifier, a checksum (00_scope.md R6, R7). -/
abbrev Byte := BitVec 8

/-- The dispatch word `skip_active . err . phase . byte` of 30_encoding.md R85. -/
abbrev DispatchWord := BitVec 13

end Sys2Proof
end

