-- ==== Sys2Proof/Config.lean ====
section
/-! DEFINITION. What one instance or platform fixes and the spec leaves OPEN: `SKIP_COUNT`, the rows of the Service Identifier
Table and the type `Time` (00_scope.md R6, 92_eei_decisions.md D5, D9, D10). The constants have no body, so a theorem that
names one holds for every value of it. -/

namespace Sys2Proof

/-- A service name (D11): the three names the spec fixes, and any other name a table row may carry. A table row may also
carry one of the three (40_service_table.md R104 item 2). DESIGN CHOICE: other names are an index, not text (log 11). -/
inductive Name where
  | negativeResponse
  | unknown
  | testerPresent
  | other (index : Nat)
  deriving DecidableEq, Repr, Inhabited

/-- `SKIP_COUNT`, the number of leading events discarded after construction (R6, R34, D9): OPEN (log 8). -/
opaque Config.skipCount : Nat

/-- The rows of the Service Identifier Table that the spec leaves OPEN (R104, D10; log 9): every key but 0x3E, whose row
`Machine.sidTable` fixes. -/
opaque Config.sidTableRow : Byte → Option Name

/-- The timestamps of the platform, listed: the code of the one with number `k`. A timestamp may be listed more than once, so
there may be infinitely many of them, or any number from one on (R6, D5, N4): OPEN (log 10). -/
opaque Config.timeCode : Nat → Nat

/-- A timestamp (R6, D5): the type is OPEN, one value for each code that `Config.timeCode` lists. It has no arithmetic and no
order, so nothing in the model can compare or compute with one (N4). -/
structure Time where
  code : Nat
  listed : ∃ k, Config.timeCode k = code
  deriving DecidableEq, Repr

/-- The timestamp with number `k`. Timestamps with different numbers may be one and the same. -/
def Time.nth (k : Nat) : Time := ⟨Config.timeCode k, k, rfl⟩

end Sys2Proof
end

