-- ==== Sys2Proof/Syntax.lean ====
section
/-! DEFINITION. The operations of the decoder, one constructor for each row of spec/opcode_table.json (30_encoding.md R86).
A constructor keeps every bit of its word that the row's mask leaves free, so no bit of an encoding is dropped. -/

namespace Sys2Proof

/-- An operation: the twelve DISPATCH13 rows, then the three SID8 rows. -/
inductive Instr where
  /-- SKIP (R110): the flag, the phase code and the byte are don't-care. -/
  | skip (err : Bool) (phase : BitVec 3) (byte : Byte)
  /-- BUSERR (R111): the phase code and the byte are don't-care. -/
  | buserr (phase : BitVec 3) (byte : Byte)
  /-- FMT_COMPACT (R121): format byte `00LLLLLL`. -/
  | fmtCompact (len6 : BitVec 6)
  /-- FMT_UNSUP (R122): format byte `01xxxxxx`. -/
  | fmtUnsup (len6 : BitVec 6)
  /-- FMT_ADDR (R123): format byte `1mLLLLLL`. -/
  | fmtAddr (mode : BitVec 1) (len6 : BitVec 6)
  /-- DST (R124): destination address. -/
  | dst (byte : Byte)
  /-- SRC (R125): source address. -/
  | src (byte : Byte)
  /-- LEN (R126): explicit length byte. -/
  | len (byte : Byte)
  /-- SID (R140): service identifier. -/
  | sid (byte : Byte)
  /-- PARAM (R141): one parameter byte. -/
  | param (byte : Byte)
  /-- CKS (R142): checksum byte. -/
  | cks (byte : Byte)
  /-- ILLSTATE (R166): phase code 7, which no state holds. -/
  | illstate (byte : Byte)
  /-- SIDNAME.NEG (R101): the service identifier 0x7F. -/
  | sidnameNeg
  /-- SIDNAME.TP (R104): the service identifiers 0x3E and 0x7E. -/
  | sidnameTp (responseBit : BitVec 1)
  /-- SIDNAME.TBL (R100): every other service identifier. -/
  | sidnameTbl (sid : Byte)
  deriving DecidableEq, Repr

end Sys2Proof
end

