-- ==== Sys2Proof/WellFormed.lean ====
section
/-! DEFINITION. Which operation terms have an encoding of their own. Every DISPATCH13 term has; of the SID8 rows only
SIDNAME.TBL has a side condition, because the rows are matched in priority order (30_encoding.md R86). -/

namespace Sys2Proof

/-- SIDNAME.TBL takes a byte only where the two rows before it do not: not 0x7F, and not 0x3E or 0x7E. -/
def Instr.wellFormed : Instr → Bool
  | .skip _ _ _ => true
  | .buserr _ _ => true
  | .fmtCompact _ => true
  | .fmtUnsup _ => true
  | .fmtAddr _ _ => true
  | .dst _ => true
  | .src _ => true
  | .len _ => true
  | .sid _ => true
  | .param _ => true
  | .cks _ => true
  | .illstate _ => true
  | .sidnameNeg => true
  | .sidnameTp _ => true
  | .sidnameTbl b => b != 0x7F#8 && b &&& 0xBF#8 != 0x3E#8

/-- The operation term has an encoding of its own. -/
abbrev Instr.WellFormed (i : Instr) : Prop := i.wellFormed = true

end Sys2Proof
end

