-- ==== Sys2Proof/Decode.lean ====
section
/-! DEFINITION. The decoder and the encoder of operation words, both written from 30_encoding.md R72, R73, R85, R86 and the
SID8 rows of opcode_table.json; and the opcode table itself as data. -/

namespace Sys2Proof

/-- Why a sequence of bytes is no operation word. -/
inductive Reject where
  /-- No byte at all. -/
  | empty
  /-- Two bytes whose bits 15 to 13 are not all zero: the dispatch word has 13 bits (R85). -/
  | reservedBits
  /-- More than two bytes: no format is that long. -/
  | tooLong
  deriving DecidableEq, Repr

/-- The operation of a format byte `b`, taken in phase FORMAT (R72, R73): the mode field `b[7:6]` selects it. -/
def decodeFormatByte (b : Byte) : Instr :=
  if b.getLsbD 7 then .fmtAddr (b.extractLsb' 6 1) (b.extractLsb' 0 6)
  else if b.getLsbD 6 then .fmtUnsup (b.extractLsb' 0 6)
  else .fmtCompact (b.extractLsb' 0 6)

/-- The operation of a consumed byte in the phase with the given code (R86); the codes are those of R21. -/
def decodeConsumed (phase : BitVec 3) (b : Byte) : Instr :=
  match phase with
  | 0#3 => decodeFormatByte b
  | 1#3 => .dst b
  | 2#3 => .src b
  | 3#3 => .len b
  | 4#3 => .sid b
  | 5#3 => .param b
  | 6#3 => .cks b
  | _ => .illstate b

/-- The operation a dispatch word selects (R85, R86): the skip bit first, then the bus-error bit, then the phase. Total:
the twelve rows cover all 8192 words. -/
def decodeDispatch (w : DispatchWord) : Instr :=
  if w.getLsbD 12 then .skip (w.getLsbD 11) (w.extractLsb' 8 3) (w.extractLsb' 0 8)
  else if w.getLsbD 11 then .buserr (w.extractLsb' 8 3) (w.extractLsb' 0 8)
  else decodeConsumed (w.extractLsb' 8 3) (w.extractLsb' 0 8)

/-- The SID8 row a service identifier selects, in priority order (R86, R100, R101, R104). -/
def decodeSid8 (b : Byte) : Instr :=
  if b = 0x7F#8 then .sidnameNeg
  else if b &&& 0xBF#8 = 0x3E#8 then .sidnameTp (b.extractLsb' 6 1)
  else .sidnameTbl b

/-- The operation of a word given as bytes, least significant byte first: one byte is a SID8 word, two bytes are a
dispatch word in the low 13 bits. DESIGN CHOICE: the byte layout (log 21). -/
def decode : List Byte → Except Reject Instr
  | [] => .error .empty
  | [b] => .ok (decodeSid8 b)
  | [lo, hi] =>
    if hi.extractLsb' 5 3 = 0#3 then .ok (decodeDispatch (hi.extractLsb' 0 5 ++ lo)) else .error .reservedBits
  | _ :: _ :: _ :: _ => .error .tooLong

/-- An operation word: of the format DISPATCH13 or of the format SID8 (R86). -/
inductive OpWord where
  | dispatch (w : DispatchWord)
  | sid8 (b : Byte)
  deriving DecidableEq, Repr

/-- The dispatch word with the given fields (R85). -/
def mkDispatch (skip err : BitVec 1) (phase : BitVec 3) (b : Byte) : DispatchWord :=
  skip ++ err ++ phase ++ b

/-- The dispatch word of a byte consumed in the phase with the given code. -/
def consumedWord (phase : BitVec 3) (b : Byte) : OpWord := .dispatch (mkDispatch 0#1 0#1 phase b)

/-- The word of an operation (R86 and the SID8 rows). -/
def encodeWord : Instr → OpWord
  | .skip err phase b => .dispatch (mkDispatch 1#1 (BitVec.ofBool err) phase b)
  | .buserr phase b => .dispatch (mkDispatch 0#1 1#1 phase b)
  | .fmtCompact len6 => consumedWord 0#3 (0b00#2 ++ len6)
  | .fmtUnsup len6 => consumedWord 0#3 (0b01#2 ++ len6)
  | .fmtAddr mode len6 => consumedWord 0#3 (1#1 ++ mode ++ len6)
  | .dst b => consumedWord 1#3 b
  | .src b => consumedWord 2#3 b
  | .len b => consumedWord 3#3 b
  | .sid b => consumedWord 4#3 b
  | .param b => consumedWord 5#3 b
  | .cks b => consumedWord 6#3 b
  | .illstate b => consumedWord 7#3 b
  | .sidnameNeg => .sid8 0x7F#8
  | .sidnameTp r => .sid8 (0#1 ++ r ++ 0x3E#6)
  | .sidnameTbl b => .sid8 b

/-- A word as bytes, least significant byte first (log 21). -/
def OpWord.bytes : OpWord → List Byte
  | .dispatch w => [w.extractLsb' 0 8, 0#3 ++ w.extractLsb' 8 5]
  | .sid8 b => [b]

/-- The bytes of an operation's word. -/
def encode (i : Instr) : List Byte := (encodeWord i).bytes

/-- One row of opcode_table.json: a word belongs to it when `word &&& mask = pattern`. -/
structure OpRow where
  mnemonic : String
  width : Nat
  mask : Nat
  pattern : Nat
  deriving DecidableEq, Repr

/-- The row of opcode_table.json an operation belongs to, with the table's mask and match. -/
def Instr.row : Instr → OpRow
  | .skip _ _ _ => ⟨"SKIP", 13, 0x1000, 0x1000⟩
  | .buserr _ _ => ⟨"BUSERR", 13, 0x1800, 0x0800⟩
  | .fmtCompact _ => ⟨"FMT_COMPACT", 13, 0x1FC0, 0x0000⟩
  | .fmtUnsup _ => ⟨"FMT_UNSUP", 13, 0x1FC0, 0x0040⟩
  | .fmtAddr _ _ => ⟨"FMT_ADDR", 13, 0x1F80, 0x0080⟩
  | .dst _ => ⟨"DST", 13, 0x1F00, 0x0100⟩
  | .src _ => ⟨"SRC", 13, 0x1F00, 0x0200⟩
  | .len _ => ⟨"LEN", 13, 0x1F00, 0x0300⟩
  | .sid _ => ⟨"SID", 13, 0x1F00, 0x0400⟩
  | .param _ => ⟨"PARAM", 13, 0x1F00, 0x0500⟩
  | .cks _ => ⟨"CKS", 13, 0x1F00, 0x0600⟩
  | .illstate _ => ⟨"ILLSTATE", 13, 0x1F00, 0x0700⟩
  | .sidnameNeg => ⟨"SIDNAME.NEG", 8, 0xFF, 0x7F⟩
  | .sidnameTp _ => ⟨"SIDNAME.TP", 8, 0xBF, 0x3E⟩
  | .sidnameTbl _ => ⟨"SIDNAME.TBL", 8, 0x00, 0x00⟩

/-- The twelve DISPATCH13 rows, in the table's order (R86). -/
def dispatchRows : List OpRow :=
  [Instr.row (.skip false 0#3 0#8), Instr.row (.buserr 0#3 0#8), Instr.row (.fmtCompact 0#6), Instr.row (.fmtUnsup 0#6),
   Instr.row (.fmtAddr 0#1 0#6), Instr.row (.dst 0#8), Instr.row (.src 0#8), Instr.row (.len 0#8), Instr.row (.sid 0#8),
   Instr.row (.param 0#8), Instr.row (.cks 0#8), Instr.row (.illstate 0#8)]

/-- The word with value `n` belongs to the row. -/
def OpRow.covers (r : OpRow) (n : Nat) : Bool := n &&& r.mask == r.pattern

/-- The value of an operation word. -/
def OpWord.toNat : OpWord → Nat
  | .dispatch w => w.toNat
  | .sid8 b => b.toNat

/-- The bytes of a table word of `nbits` bits with value `w`, least significant byte first; `nbits` is taken up to a whole
number of bytes. -/
def tableWordBytes (nbits w : Nat) : List Byte :=
  (List.range ((nbits + 7) / 8)).map fun k => BitVec.ofNat 8 (w / 256 ^ k)

/-- The operation the decoder reads from a table word of `nbits` bits with value `w`; none where the decoder rejects the
word or the value needs more bits than the word's bytes have. -/
def decodeTableWord (nbits w : Nat) : Option Instr :=
  if w < 256 ^ ((nbits + 7) / 8) then (decode (tableWordBytes nbits w)).toOption else none

end Sys2Proof
end

