-- ==== Sys2Proof/Machine/State.lean ====
section
/-! DEFINITION. The decoder's state as plain data (10_state.md R20 to R44), its inputs and outputs (30_encoding.md R70,
R82 to R84), the reasons a step can stop, and the state after construction (R43, 70_reset_and_hazards.md R190). -/

namespace Sys2Proof.Machine

/-- The phase register (R21): a closed type of exactly seven values. -/
inductive Phase where
  | format
  | dstAddr
  | srcAddr
  | length
  | serviceId
  | params
  | checksum
  deriving DecidableEq, Repr

/-- One input event (R70): a byte, its two timestamps and the bus-error flag. -/
structure Event where
  byte      : Byte
  startTime : Time
  endTime   : Time
  err       : Bool
  deriving DecidableEq, Repr

/-- The three protocol errors (60_exceptions.md R160, 90_conflicts.md C5). -/
inductive ErrorKind where
  | unsupportedFormat
  | invalidLength
  | invalidChecksum
  deriving DecidableEq, Repr

/-- A decoded frame (R83). -/
structure DecodedFrame where
  dstAddr      : Option Byte
  srcAddr      : Option Byte
  serviceId    : Byte
  serviceName  : Name
  params       : List Byte
  checksumByte : Byte
  startTime    : Time
  endTime      : Time
  deriving DecidableEq, Repr

/-- A decode error (R84, R162): a kind and two timestamps, nothing else. -/
structure DecodeError where
  kind      : ErrorKind
  startTime : Time
  endTime   : Time
  deriving DecidableEq, Repr

/-- The output of one step (R82). -/
inductive Output where
  | nothing
  | frame (f : DecodedFrame)
  | error (e : DecodeError)
  deriving DecidableEq, Repr

/-- One evaluation of `SidName` (40_service_table.md R100, R106): its argument and its result. -/
structure Lookup where
  sid  : Byte
  name : Name
  deriving DecidableEq, Repr

/-- An operation word put to the machine outside the event stream: the rows of opcode_table.json no event can select.
DESIGN CHOICE, the model's own (log 4). -/
inductive Probe where
  /-- Evaluate `SidName` on a byte: the three SID8 rows, which are no operations of a step (R86). -/
  | sid8 (b : Byte)
  /-- A dispatch word with phase code 7: ILLSTATE, which no state selects (R166). -/
  | phase7 (b : Byte)
  deriving DecidableEq, Repr

/-- The parameter buffer PARAMS (20_memory.md R50, R51): the slots that hold a value, slot numbers strictly rising. A slot
that is not listed holds no value (R43, U8; log 7). -/
abbrev Memory := List Host.Cell

/-- All state of one decoder instance (R20), then the model's own interface fields (logs 1 to 5). -/
structure State where
  /-- `ctx.state` (R21, R22). -/
  phase : Phase
  /-- `ctx.remaining_length` (R23). -/
  remainingLength : Byte
  /-- `ctx.dst_present` (R24, R27). -/
  dstPresent : Bool
  /-- `ctx.dst_addr` (R24). -/
  dstAddr : Byte
  /-- `ctx.src_present` (R25, R27). -/
  srcPresent : Bool
  /-- `ctx.src_addr` (R25). -/
  srcAddr : Byte
  /-- `ctx.service_id` (R26). -/
  serviceId : Byte
  /-- `ctx.params_len` (R28, R29). -/
  paramsLen : Byte
  /-- The slots of `ctx.params` (R28). -/
  params : Memory
  /-- `ctx.running_checksum` (R30). -/
  runningChecksum : Byte
  /-- `ctx.start_time` (R32). -/
  startTime : Time
  /-- `ctx.end_time` (R33). -/
  endTime : Time
  /-- `skip_remaining` (R34). -/
  skipRemaining : Nat
  /-- The model's own: the events not yet fed, oldest first (R9; log 1). -/
  input : List Event
  /-- The model's own: `ev.start` of the event of this step (R70; log 3). -/
  evStart : Time
  /-- The model's own: `ev.end` of the event of this step (R70; log 3). -/
  evEnd : Time
  /-- The model's own: the outputs returned so far, oldest first (R9; log 2). -/
  outputs : List Output
  /-- The model's own: the evaluations of `SidName` so far, oldest first (R106; log 5). -/
  lookups : List Lookup
  /-- The model's own: an operation word put outside the event stream (log 4). -/
  probe : Option Probe
  deriving DecidableEq, Repr

/-- The faults of a step. Both are safe: the spec proves that no run from construction reaches them. -/
inductive Fault where
  /-- Raised by PARAM when it would append above slot 253: the slot does not exist and no behaviour is defined (20_memory.md
  R52, 10_state.md R29). Safe. -/
  | paramsOutOfRange
  /-- Raised by CKS when it would copy out a slot that holds no value (93_implementation_defined.md U8: `fault` on a read
  before a write). Safe. -/
  | unwrittenSlot
  deriving DecidableEq, Repr

/-- The refusals of a step. -/
inductive Refusal where
  /-- Raised by exec for an operation that has no meaning yet; none is left. Safe. -/
  | notModelled (mnemonic : String)
  /-- Raised by ILLSTATE: a phase outside the seven, a fatal and unrecoverable condition (60_exceptions.md R166, D14, U1:
  `refuse`). Safe. -/
  | internalInconsistency
  deriving DecidableEq, Repr

/-- Construction with a given `SKIP_COUNT` (R190, R43). DESIGN CHOICE: the registers the spec gives no value hold zero
(log 6). -/
def State.init (skipCount : Nat) : State where
  phase := .format
  remainingLength := 0#8
  dstPresent := false
  dstAddr := 0#8
  srcPresent := false
  srcAddr := 0#8
  serviceId := 0#8
  paramsLen := 0#8
  params := []
  runningChecksum := 0#8
  startTime := Time.nth 0
  endTime := Time.nth 0
  skipRemaining := skipCount
  input := []
  evStart := Time.nth 0
  evEnd := Time.nth 0
  outputs := []
  lookups := []
  probe := none

/-- The machine right after reset: construction with the instance's `SKIP_COUNT` (R190, R191, D19). -/
def State.reset : State := State.init Config.skipCount

end Sys2Proof.Machine
end

