-- ==== Sys2Proof/Machine/Operands.lean ====
section
/-! DEFINITION. Operand forms: the phase codes, the dispatch word of an event, the format byte and its inline length, the
lookup key of a service identifier, and the output codes (10_state.md R21, 30_encoding.md R72 to R74, R84, R85). -/

namespace Sys2Proof.Machine

/-- The 3-bit code of a phase (R21; D3, log 12). Code 7 is the code of no phase. -/
def Phase.code : Phase → BitVec 3
  | .format => 0#3
  | .dstAddr => 1#3
  | .srcAddr => 2#3
  | .length => 3#3
  | .serviceId => 4#3
  | .params => 5#3
  | .checksum => 6#3

/-- The phase with a given code; none for code 7 (R21, R166). -/
def Phase.ofCode (c : BitVec 3) : Option Phase :=
  match c with
  | 0#3 => some .format
  | 1#3 => some .dstAddr
  | 2#3 => some .srcAddr
  | 3#3 => some .length
  | 4#3 => some .serviceId
  | 5#3 => some .params
  | 6#3 => some .checksum
  | _ => none

/-- The dispatch word of an event in a state (R85): `skip_active . err . phase . byte`. -/
def dispatchWord (skipActive : Bool) (phase : Phase) (e : Event) : DispatchWord :=
  mkDispatch (BitVec.ofBool skipActive) (BitVec.ofBool e.err) phase.code e.byte

/-- The format byte with a given mode and inline length field (R72). -/
def formatByte (mode : BitVec 2) (len6 : BitVec 6) : Byte := mode ++ len6

/-- The inline length `zext_8(format_byte[5:0])` (R72, R74). -/
def inlineLength (len6 : BitVec 6) : Byte := len6.setWidth 8

/-- The table key of a service identifier: bit 6 cleared, no other bit changed (40_service_table.md R100, R102). -/
def sidKey (b : Byte) : Byte := b &&& 0xBF#8

/-- The 2-bit code of an error kind (60_exceptions.md R161, D4). Code 3 is the code of no kind. -/
def ErrorKind.code : ErrorKind → BitVec 2
  | .unsupportedFormat => 0#2
  | .invalidLength => 1#2
  | .invalidChecksum => 2#2

/-- The 2-bit code of an output's kind (R84, D4). Code 3 is the code of no output. -/
def Output.code : Output → BitVec 2
  | .nothing => 0#2
  | .frame _ => 1#2
  | .error _ => 2#2

end Sys2Proof.Machine
end

