-- ==== Sys2Proof/Machine/Flags.lean ====
section
/-! DEFINITION. The predicates of the current event and state (10_state.md R27), computed inside one step and never stored,
and the optional addresses that the two stored presence flags mask (R24, R25). The predicate `fmt_mode` is the mode field
that `decodeFormatByte` tests. -/

namespace Sys2Proof.Machine

/-- `skip_active`: the skip counter is not zero (R27, R85). -/
def State.skipActive (s : State) : Bool := s.skipRemaining != 0

/-- `inline_zero`: the format byte's length field is zero (R27). -/
def inlineZero (len6 : BitVec 6) : Bool := len6 == 0#6

/-- `need_len`: the frame's length is not yet known (R27). -/
def State.needLen (s : State) : Bool := s.remainingLength == 0#8

/-- `len_zero`: the explicit length byte is zero (R27). -/
def lenZero (b : Byte) : Bool := b == 0#8

/-- `no_params`: the frame holds a service identifier only (R27). -/
def State.noParams (s : State) : Bool := s.remainingLength == 1#8

/-- The comparison behind `last_param`: the count after the append equals `remaining_length - 1` (R27, R141). The 8-bit
subtraction gives 255 for a zero length, which no count equals, as -1 would not (log 20). -/
def State.paramsComplete (s : State) : Bool := s.paramsLen == s.remainingLength - 1#8

/-- `cks_match`: the byte equals the accumulator (R27). -/
def State.cksMatch (b : Byte) (s : State) : Bool := b == s.runningChecksum

/-- The optional destination address: absent unless `dst_present` (R24). -/
def State.dst? (s : State) : Option Byte := if s.dstPresent then some s.dstAddr else none

/-- The optional source address: absent unless `src_present` (R25). -/
def State.src? (s : State) : Option Byte := if s.srcPresent then some s.srcAddr else none

end Sys2Proof.Machine
end

