-- ==== Sys2Proof/Machine/Ops.lean ====
section
/-! DEFINITION. The named operations over the buffer and the registers: memory accesses (20_memory.md R52, R53, R55), the two
clearing actions (10_state.md R37, R38), CksAdd (R31), emitting and raising (30_encoding.md R82, 60_exceptions.md R163), the
name function (40_service_table.md R100), and what one step takes up (30_encoding.md R85 to R87). -/

namespace Sys2Proof.Machine

/-! ### The parameter buffer -/

/-- `PARAM_MAX`, the number of slots of the buffer (R29). -/
def paramMax : Nat := 254

/-- What a slot that no write has reached reads as: no value (R43, U8; log 7). -/
def Memory.unlisted : Option Byte := none

/-- The canonical form: slot numbers strictly rising, every slot one of the 254 (R50). An unlisted slot holds no value, so no
entry equals what an unlisted slot reads as. -/
def Memory.wf : Memory → Bool
  | [] => true
  | [c] => c.1 < paramMax
  | c :: d :: m => c.1 < d.1 && Memory.wf (d :: m)

/-- The byte in a slot, if the slot holds one. -/
def Memory.read : Memory → Nat → Option Byte
  | [], _ => Memory.unlisted
  | c :: m, a => if c.1 = a then some c.2 else Memory.read m a

/-- `MemWrite(PARAMS, a, 1, v)` (R52), keeping the slot numbers rising. -/
def Memory.write : Memory → Nat → Byte → Memory
  | [], a, v => [(a, v)]
  | c :: m, a, v =>
    if a < c.1 then (a, v) :: c :: m
    else if a = c.1 then (a, v) :: m
    else c :: Memory.write m a v

/-- `MemRead(PARAMS, 0, n)` (R53): the first `n` slots in order, if each holds a byte. -/
def Memory.readSeq (m : Memory) : Nat → Option (List Byte)
  | 0 => some []
  | n + 1 =>
    match Memory.readSeq m n, Memory.read m n with
    | some bs, some b => some (bs ++ [b])
    | _, _ => none

/-! ### Updates of the registers -/

/-- `ctx.state <- p` (R8). -/
def State.goto (p : Phase) (s : State) : State := { s with phase := p }

/-- `ctx.remaining_length <- v` (R23). -/
def State.setLength (v : Byte) (s : State) : State := { s with remainingLength := v }

/-- `ctx.dst_addr <- b; ctx.dst_present <- 1` (R24, R124). -/
def State.setDst (b : Byte) (s : State) : State := { s with dstAddr := b, dstPresent := true }

/-- `ctx.src_addr <- b; ctx.src_present <- 1` (R25, R125). -/
def State.setSrc (b : Byte) (s : State) : State := { s with srcAddr := b, srcPresent := true }

/-- `ctx.service_id <- b` (R26, R140). -/
def State.setServiceId (b : Byte) (s : State) : State := { s with serviceId := b }

/-- `skip_remaining <- skip_remaining - 1` (R34, R110); used only where the counter is not zero. -/
def State.countSkip (s : State) : State := { s with skipRemaining := s.skipRemaining - 1 }

/-- The preamble of every consumed event, `ctx.end_time <- ev.end` (R120, R33; D6, log 13). -/
def State.consume (s : State) : State := { s with endTime := s.evEnd }

/-- `ResetContext()` (R37). It leaves `remaining_length`, `service_id`, the address bytes, the slots, both times and the skip
counter as they are. Clearing the presence flags is D8 (log 15). -/
def State.resetContext (s : State) : State :=
  { s with phase := .format, runningChecksum := 0#8, paramsLen := 0#8, dstPresent := false, srcPresent := false }

/-- `BeginFrame()` (R38). Clearing the presence flags is D8 (log 15). -/
def State.beginFrame (s : State) : State :=
  { s with paramsLen := 0#8, runningChecksum := 0#8, dstPresent := false, srcPresent := false, startTime := s.evStart }

/-- `CksAdd(b)` (R31): the addition is modulo 256. -/
def State.cksAdd (b : Byte) (s : State) : State := { s with runningChecksum := s.runningChecksum + b }

/-- `emit o` (R8, R82): the step's one output. -/
def State.emit (o : Output) (s : State) : State := { s with outputs := s.outputs ++ [o] }

/-- Taking an exception, `raise K` (R163): emit the error with the recorded start and the end of this event, then
`ResetContext()`; the step ends without CksAdd. Nothing is saved and there is no handler, so no operation returns from it
(R169). The two timestamps of InvalidLength and InvalidChecksum are D7 (log 14). -/
def State.raise (k : ErrorKind) (s : State) : State :=
  (s.emit (.error ⟨k, s.startTime, s.evEnd⟩)).resetContext

/-- `params[params_len] <- b; params_len <- params_len + 1` (R28, R52, R141). A slot above 253 does not exist (log 7). -/
def State.appendParam (b : Byte) (s : State) : Except Fault State :=
  if s.paramsLen.toNat < paramMax then
    .ok { s with params := s.params.write s.paramsLen.toNat b, paramsLen := s.paramsLen + 1#8 }
  else .error .paramsOutOfRange

/-! ### The Service Identifier Table -/

/-- `SID_TABLE` (R104): the one row the spec fixes, the rest OPEN (log 9). -/
def sidTable (k : Byte) : Option Name := if k = 0x3E#8 then some .testerPresent else Config.sidTableRow k

/-- `MemRead(SIDROM, k, 1)` of the masked key with the fallback name (R55, R103), over any table. -/
def tableName (table : Byte → Option Name) (b : Byte) : Name := (table (sidKey b)).getD .unknown

/-- `SidName(b)` over any table (R100, R101): 0x7F is decided before the table. -/
def sidNameIn (table : Byte → Option Name) (b : Byte) : Name :=
  if b = 0x7F#8 then .negativeResponse else tableName table b

/-- `SidName(b)` (R100). -/
def sidName (b : Byte) : Name := sidNameIn sidTable b

/-- Record one evaluation of `SidName`: the result channel of the name function, and the count of R106 (log 5). -/
def State.logLookup (b : Byte) (n : Name) (s : State) : State := { s with lookups := s.lookups ++ [⟨b, n⟩] }

/-! ### What a step takes up -/

/-- The operation of a probe's word (log 4). -/
def Probe.decode : Probe → Instr
  | .sid8 b => decodeSid8 b
  | .phase7 b => decodeDispatch (mkDispatch 0#1 0#1 7#3 b)

/-- Take the event from the stream: its timestamps stand in the state during the step (R70; log 3). -/
def State.present (e : Event) (rest : List Event) (s : State) : State :=
  { s with input := rest, evStart := e.startTime, evEnd := e.endTime }

/-- The operation of the next step and the state it runs in: a probe's word if one is put (log 4), else the operation the
first event of the stream selects (R85, R86); none when there is nothing to do. -/
def State.fetch (s : State) : Option (Instr × State) :=
  match s.probe, s.input with
  | some p, _ => some (p.decode, { s with probe := none })
  | none, [] => none
  | none, e :: rest => some (decodeDispatch (dispatchWord s.skipActive s.phase e), s.present e rest)

/-- The state in which the next step takes up the dispatch word `w`: an event that carries the word's flag and byte stands
first in the stream, the phase is the one the word names, and the skip counter is zero exactly when the word's skip bit is.
A word with phase code 7 that is consumed is put as a probe, since no phase has that code (R166; log 22). -/
def State.placeDispatch (w : DispatchWord) (s : State) : State :=
  let skip := w.getLsbD 12
  let err := w.getLsbD 11
  let b := w.extractLsb' 0 8
  let e : Event := ⟨b, s.evStart, s.evEnd, err⟩
  let placed (p : Phase) : State :=
    { s with
      phase := p
      skipRemaining := if skip then s.skipRemaining - 1 + 1 else 0
      input := e :: s.input
      probe := none }
  match Phase.ofCode (w.extractLsb' 8 3) with
  | some p => placed p
  | none => if skip || err then placed s.phase else { s with probe := some (.phase7 b) }

/-- The state in which the next step takes up a table word of `nbits` bits with value `w`: a word of one byte is a SID8 word,
a word of two bytes a dispatch word. A word the decoder rejects cannot be placed and leaves the state as it is. -/
def State.placeTableWord (s : State) (nbits w : Nat) : State :=
  match decodeTableWord nbits w, (nbits + 7) / 8 with
  | some _, 1 => { s with probe := some (.sid8 (BitVec.ofNat 8 w)) }
  | some _, 2 => s.placeDispatch (BitVec.ofNat 13 w)
  | _, _ => s

end Sys2Proof.Machine
end

