-- ==== Sys2Proof/Machine/Body.lean ====
section
/-! DEFINITION. The body operations (43_body_phases.md): SID, PARAM and CKS. -/

namespace Sys2Proof.Machine

/-- SID (R140): the byte is stored raw; the name is not looked up here (R106). -/
def execSid (b : Byte) (s : State) : Host.Outcome State Fault Refusal :=
  .next ((((s.consume.setServiceId b).goto (if s.noParams then .checksum else .params)).cksAdd b).emit .nothing)

/-- PARAM (R141): the count compared is the count after the append. -/
def execParam (b : Byte) (s : State) : Host.Outcome State Fault Refusal :=
  match s.consume.appendParam b with
  | .ok s => .next (((s.goto (if s.paramsComplete then .checksum else .params)).cksAdd b).emit .nothing)
  | .error r => .fault r

/-- The frame CKS emits on a match (R83, R142), given the copied parameter bytes. -/
def State.decodedFrame (b : Byte) (ps : List Byte) (s : State) : DecodedFrame where
  dstAddr := s.dst?
  srcAddr := s.src?
  serviceId := s.serviceId
  serviceName := sidName s.serviceId
  params := ps
  checksumByte := b
  startTime := s.startTime
  endTime := s.evEnd

/-- CKS (R142): on a match the frame is built, with one evaluation of `SidName` (R106), before `ResetContext()`; on a
mismatch InvalidChecksum is raised. The byte is never added to the accumulator. -/
def execCks (b : Byte) (s : State) : Host.Outcome State Fault Refusal :=
  let s := s.consume
  if s.cksMatch b then
    match s.params.readSeq s.paramsLen.toNat with
    | some ps =>
      .next (((s.logLookup s.serviceId (sidName s.serviceId)).emit (.frame (s.decodedFrame b ps))).resetContext)
    | none => .fault .unwrittenSlot
  else .next (s.raise .invalidChecksum)

end Sys2Proof.Machine
end

