-- ==== Sys2Proof/Machine/Gating.lean ====
section
/-! DEFINITION. Event gating (41_event_gating.md): SKIP and BUSERR, and the row ILLSTATE (60_exceptions.md R166). -/

namespace Sys2Proof.Machine

/-- SKIP (R110): count the event and discard it. No field of the event is read. -/
def execSkip (_err : Bool) (_phase : BitVec 3) (_byte : Byte) (s : State) : Host.Outcome State Fault Refusal :=
  .next (s.countSkip.emit .nothing)

/-- BUSERR (R111): no state change, no checksum update. -/
def execBuserr (_phase : BitVec 3) (_byte : Byte) (s : State) : Host.Outcome State Fault Refusal :=
  .next (s.emit .nothing)

/-- ILLSTATE (R166): no step. The condition is fatal and is none of the three protocol errors (D14, log 17). -/
def execIllstate (_byte : Byte) (_s : State) : Host.Outcome State Fault Refusal :=
  .refused .internalInconsistency

end Sys2Proof.Machine
end

