-- ==== Sys2Proof/Machine/Header.lean ====
section
/-! DEFINITION. The header operations (42_header_phases.md): the three FORMAT operations, DST, SRC and LEN. -/

namespace Sys2Proof.Machine

/-- FMT_COMPACT (R121). -/
def execFmtCompact (len6 : BitVec 6) (s : State) : Host.Outcome State Fault Refusal :=
  let s := s.consume.beginFrame.setLength (inlineLength len6)
  let s := s.goto (if inlineZero len6 then .length else .serviceId)
  .next ((s.cksAdd (formatByte 0b00#2 len6)).emit .nothing)

/-- FMT_UNSUP (R122): the low six bits are not examined and `remaining_length` is not written. -/
def execFmtUnsup (_len6 : BitVec 6) (s : State) : Host.Outcome State Fault Refusal :=
  .next (s.consume.beginFrame.raise .unsupportedFormat)

/-- FMT_ADDR (R123): bit 6 of the format byte matters to the checksum only. -/
def execFmtAddr (mode : BitVec 1) (len6 : BitVec 6) (s : State) : Host.Outcome State Fault Refusal :=
  let s := (s.consume.beginFrame.setLength (inlineLength len6)).goto .dstAddr
  .next ((s.cksAdd (formatByte (1#1 ++ mode) len6)).emit .nothing)

/-- DST (R124). -/
def execDst (b : Byte) (s : State) : Host.Outcome State Fault Refusal :=
  .next ((((s.consume.setDst b).goto .srcAddr).cksAdd b).emit .nothing)

/-- SRC (R125): the next phase depends on the length the format byte left, not on `b`. -/
def execSrc (b : Byte) (s : State) : Host.Outcome State Fault Refusal :=
  .next ((((s.consume.setSrc b).goto (if s.needLen then .length else .serviceId)).cksAdd b).emit .nothing)

/-- LEN (R126): `remaining_length` is written before the test (R164). -/
def execLen (b : Byte) (s : State) : Host.Outcome State Fault Refusal :=
  let s := s.consume.setLength b
  if lenZero b then .next (s.raise .invalidLength)
  else .next (((s.goto .serviceId).cksAdd b).emit .nothing)

end Sys2Proof.Machine
end

