-- ==== Sys2Proof/Machine/ServiceTable.lean ====
section
/-! DEFINITION. The three SID8 rows (40_service_table.md): the name function on its own. They are no operations of a step
(30_encoding.md R86); put as a probe, each evaluates `SidName` and its result stands in the lookup record (logs 4, 5). The
decoder context is neither read nor written (R100). -/

namespace Sys2Proof.Machine

/-- SIDNAME.NEG (R101): the fixed name of 0x7F, whatever the table holds. -/
def execSidnameNeg (s : State) : Host.Outcome State Fault Refusal :=
  .next (s.logLookup 0x7F#8 .negativeResponse)

/-- SIDNAME.TP (R104 item 1): 0x3E and 0x7E name "testerPresent". -/
def execSidnameTp (responseBit : BitVec 1) (s : State) : Host.Outcome State Fault Refusal :=
  .next (s.logLookup (0#1 ++ responseBit ++ 0x3E#6) .testerPresent)

/-- SIDNAME.TBL (R100, R103): the table's name for the key with bit 6 cleared, or "unknown". -/
def execSidnameTbl (b : Byte) (s : State) : Host.Outcome State Fault Refusal :=
  .next (s.logLookup b (tableName sidTable b))

end Sys2Proof.Machine
end

