-- ==== Sys2Proof/Machine/Dispatch.lean ====
section
/-! DEFINITION. One arm for each operation (30_encoding.md R86): a direct call of its meaning. -/

namespace Sys2Proof.Machine

def exec (i : Instr) (s : State) : Host.Outcome State Fault Refusal :=
  match i with
  | .skip err phase byte => Sys2Proof.Machine.execSkip err phase byte s
  | .buserr phase byte => Sys2Proof.Machine.execBuserr phase byte s
  | .fmtCompact len6 => Sys2Proof.Machine.execFmtCompact len6 s
  | .fmtUnsup len6 => Sys2Proof.Machine.execFmtUnsup len6 s
  | .fmtAddr mode len6 => Sys2Proof.Machine.execFmtAddr mode len6 s
  | .dst byte => Sys2Proof.Machine.execDst byte s
  | .src byte => Sys2Proof.Machine.execSrc byte s
  | .len byte => Sys2Proof.Machine.execLen byte s
  | .sid byte => Sys2Proof.Machine.execSid byte s
  | .param byte => Sys2Proof.Machine.execParam byte s
  | .cks byte => Sys2Proof.Machine.execCks byte s
  | .illstate byte => Sys2Proof.Machine.execIllstate byte s
  | .sidnameNeg => Sys2Proof.Machine.execSidnameNeg s
  | .sidnameTp responseBit => Sys2Proof.Machine.execSidnameTp responseBit s
  | .sidnameTbl byte => Sys2Proof.Machine.execSidnameTbl byte s

end Sys2Proof.Machine
end

