-- ==== Sys2Proof/Machine/Step.lean ====
section
/-! DEFINITION. One step: one call of `feed` on the next event (00_scope.md R5, R9, 30_encoding.md R87), or one probe's word;
with nothing to do the decoder is idle and all state survives (60_exceptions.md R180; log 1). -/

namespace Sys2Proof.Machine

/-- One step of the machine. -/
def step (s : State) : Host.Outcome State Fault Refusal :=
  match s.fetch with
  | some (i, t) => exec i t
  | none => .next s

/-- `s` with a table word placed where the next step takes up its operation (log 22). -/
def State.withFetchWord (s : State) (nbits w : Nat) : State := s.placeTableWord nbits w

end Sys2Proof.Machine
end

