-- ==== Sys2Proof/Machine/Feed.lean ====
section
/-! DEFINITION. The whole step in one listing, transcribed from 30_encoding.md R87 with the register writes spelled out: a
second reading of the spec beside the dispatch word, the decoder and the meanings, to be proved equal to `step`. -/

namespace Sys2Proof.Machine

/-- `emit Error{k, ctx.start_time, ev.end}; ResetContext(); return the emitted output` (R87, R163). -/
def feedRaise (k : ErrorKind) (e : Event) (s : State) : Host.Outcome State Fault Refusal :=
  .next { s with
    outputs := s.outputs ++ [.error ⟨k, s.startTime, e.endTime⟩]
    phase := .format, runningChecksum := 0#8, paramsLen := 0#8, dstPresent := false, srcPresent := false }

/-- `CksAdd(b); return Nothing`, the end of every branch that does not emit (R87). -/
def feedDone (e : Event) (s : State) : Host.Outcome State Fault Refusal :=
  .next { s with runningChecksum := s.runningChecksum + e.byte, outputs := s.outputs ++ [.nothing] }

/-- The FORMAT branch of R87: the mode is `b[7:6]`, the inline length `b[5:0]`. -/
def feedFormat (e : Event) (s : State) : Host.Outcome State Fault Refusal :=
  let s := { s with
    paramsLen := 0#8, runningChecksum := 0#8, dstPresent := false, srcPresent := false, startTime := e.startTime }
  let mode := e.byte.toNat / 64
  let len := e.byte.toNat % 64
  if mode = 0 then
    feedDone e { s with remainingLength := BitVec.ofNat 8 len, phase := if len = 0 then .length else .serviceId }
  else if mode = 1 then feedRaise .unsupportedFormat e s
  else feedDone e { s with remainingLength := BitVec.ofNat 8 len, phase := .dstAddr }

/-- The CHECKSUM branch of R87. -/
def feedChecksum (e : Event) (s : State) : Host.Outcome State Fault Refusal :=
  if e.byte = s.runningChecksum then
    match s.params.readSeq s.paramsLen.toNat with
    | none => .fault .unwrittenSlot
    | some ps =>
      let f : DecodedFrame := {
        dstAddr := if s.dstPresent then some s.dstAddr else none
        srcAddr := if s.srcPresent then some s.srcAddr else none
        serviceId := s.serviceId
        serviceName := sidName s.serviceId
        params := ps
        checksumByte := e.byte
        startTime := s.startTime
        endTime := e.endTime }
      .next { s with
        lookups := s.lookups ++ [⟨s.serviceId, sidName s.serviceId⟩], outputs := s.outputs ++ [.frame f]
        phase := .format, runningChecksum := 0#8, paramsLen := 0#8, dstPresent := false, srcPresent := false }
  else feedRaise .invalidChecksum e s

/-- The PARAMS branch of R87: the comparison, over the integers, uses the count after the increment. -/
def feedParams (e : Event) (s : State) : Host.Outcome State Fault Refusal :=
  if 254 ≤ s.paramsLen.toNat then .fault .paramsOutOfRange
  else
    let last := (s.paramsLen.toNat : Int) + 1 = (s.remainingLength.toNat : Int) - 1
    feedDone e { s with
      params := s.params.write s.paramsLen.toNat e.byte
      paramsLen := s.paramsLen + 1#8
      phase := if last then .checksum else .params }

/-- `feed(ev)` (R87). -/
def State.feed (e : Event) (s : State) : Host.Outcome State Fault Refusal :=
  if s.skipRemaining ≠ 0 then
    .next { s with skipRemaining := s.skipRemaining - 1, outputs := s.outputs ++ [.nothing] }
  else if e.err then .next { s with outputs := s.outputs ++ [.nothing] }
  else
    let s := { s with endTime := e.endTime }
    match s.phase with
    | .format => feedFormat e s
    | .dstAddr => feedDone e { s with dstAddr := e.byte, dstPresent := true, phase := .srcAddr }
    | .srcAddr =>
      feedDone e { s with
        srcAddr := e.byte, srcPresent := true
        phase := if s.remainingLength.toNat = 0 then .length else .serviceId }
    | .length =>
      let s := { s with remainingLength := e.byte }
      if e.byte.toNat = 0 then feedRaise .invalidLength e s else feedDone e { s with phase := .serviceId }
    | .serviceId =>
      feedDone e { s with
        serviceId := e.byte
        phase := if s.remainingLength.toNat = 1 then .checksum else .params }
    | .params => feedParams e s
    | .checksum => feedChecksum e s

end Sys2Proof.Machine
end

