-- ==== Sys2Proof/Safety.lean ====
section
/-! DEFINITION. The terms claims are stated in: classes of operations (10_state.md R37, R38, 42_header_phases.md R120), the
invariant of the decoder (10_state.md R40, R41), the relation of states that no output can tell apart (R42, R44), the change
of all timestamps (70_reset_and_hazards.md R207), and frames on the wire (30_encoding.md R74 to R76, R80). -/

namespace Sys2Proof

/-- The three FORMAT operations, each of which begins a frame (R38). -/
def Instr.beginsFrame : Instr → Bool
  | .fmtCompact _ | .fmtUnsup _ | .fmtAddr _ _ => true
  | .skip _ _ _ | .buserr _ _ | .dst _ | .src _ | .len _ | .sid _ | .param _ | .cks _ | .illstate _
  | .sidnameNeg | .sidnameTp _ | .sidnameTbl _ => false

/-- The operations of a consumed event (R86, R120). -/
def Instr.consumesEvent : Instr → Bool
  | .fmtCompact _ | .fmtUnsup _ | .fmtAddr _ _ | .dst _ | .src _ | .len _ | .sid _ | .param _ | .cks _ | .illstate _ => true
  | .skip _ _ _ | .buserr _ _ | .sidnameNeg | .sidnameTp _ | .sidnameTbl _ => false

/-- The operations that clear the context: the FORMAT operations, CKS, and LEN with a zero byte (R37, R38). -/
def Instr.clearsContext : Instr → Bool
  | .fmtCompact _ | .fmtUnsup _ | .fmtAddr _ _ | .cks _ => true
  | .len b => b == 0#8
  | .skip _ _ _ | .buserr _ _ | .dst _ | .src _ | .sid _ | .param _ | .illstate _
  | .sidnameNeg | .sidnameTp _ | .sidnameTbl _ => false

end Sys2Proof

namespace Sys2Proof.Machine

/-- The length registers in each phase (R40, R23): no parameter is held before PARAMS; LENGTH is entered with length zero;
from SERVICE_ID on the length is at least one, and `params_len` is 0, below `remaining_length - 1`, or equal to it. -/
def State.LengthsFit (s : State) : Prop :=
  match s.phase with
  | .format => s.paramsLen.toNat = 0
  | .dstAddr => s.paramsLen.toNat = 0 ∧ s.remainingLength.toNat ≤ 63
  | .srcAddr => s.paramsLen.toNat = 0 ∧ s.remainingLength.toNat ≤ 63
  | .length => s.paramsLen.toNat = 0 ∧ s.remainingLength.toNat = 0
  | .serviceId => s.paramsLen.toNat = 0 ∧ 1 ≤ s.remainingLength.toNat
  | .params => s.paramsLen.toNat + 1 < s.remainingLength.toNat
  | .checksum => s.paramsLen.toNat + 1 = s.remainingLength.toNat

/-- The presence flags in each phase (R41). -/
def State.PresenceFits (s : State) : Prop :=
  match s.phase with
  | .format => s.dstPresent = false ∧ s.srcPresent = false
  | .dstAddr => s.dstPresent = false ∧ s.srcPresent = false
  | .srcAddr => s.dstPresent = true ∧ s.srcPresent = false
  | _ => s.dstPresent = s.srcPresent

/-- The invariant of the decoder: the buffer in its canonical form, every slot below `params_len` holding a byte (R42), the
length and presence rules of the phase (R40, R41), and an empty accumulator in phase FORMAT (R39). -/
structure State.Inv (s : State) : Prop where
  paramsWf : Memory.wf s.params = true
  slotsHeld : ∀ a, a < s.paramsLen.toNat → (Memory.read s.params a).isSome = true
  lengths : s.LengthsFit
  presence : s.PresenceFits
  emptySum : s.phase = .format → s.runningChecksum = 0#8

/-- Two states agree on everything a later output can depend on (R42, R44): all but the length and the start time in phase
FORMAT, an address whose presence flag is clear, the service identifier before it is stored, the slots at or above
`params_len`, `end_time`, and the timestamps of the event of an earlier step. -/
structure State.Agree (s t : State) : Prop where
  phase : s.phase = t.phase
  skipRemaining : s.skipRemaining = t.skipRemaining
  input : s.input = t.input
  outputs : s.outputs = t.outputs
  lookups : s.lookups = t.lookups
  probe : s.probe = t.probe
  runningChecksum : s.runningChecksum = t.runningChecksum
  paramsLen : s.paramsLen = t.paramsLen
  slots : ∀ a, a < s.paramsLen.toNat → Memory.read s.params a = Memory.read t.params a
  dst : s.dst? = t.dst?
  src : s.src? = t.src?
  remainingLength : s.phase ≠ .format → s.remainingLength = t.remainingLength
  startTime : s.phase ≠ .format → s.startTime = t.startTime
  serviceId : s.phase = .params ∨ s.phase = .checksum → s.serviceId = t.serviceId

/-- Replace every timestamp of an event. -/
def Event.mapTime (f : Time → Time) (e : Event) : Event :=
  { e with startTime := f e.startTime, endTime := f e.endTime }

/-- Replace every timestamp of an output. -/
def Output.mapTime (f : Time → Time) : Output → Output
  | .nothing => .nothing
  | .frame d => .frame { d with startTime := f d.startTime, endTime := f d.endTime }
  | .error d => .error { d with startTime := f d.startTime, endTime := f d.endTime }

/-- Replace every timestamp of a state. -/
def State.mapTime (f : Time → Time) (s : State) : State :=
  { s with
    startTime := f s.startTime
    endTime := f s.endTime
    input := s.input.map (Event.mapTime f)
    evStart := f s.evStart
    evEnd := f s.evEnd
    outputs := s.outputs.map (Output.mapTime f) }

/-- The output is a frame or an error: what the Frame Sink receives (R82). -/
def Output.emits : Output → Bool
  | .nothing => false
  | .frame _ => true
  | .error _ => true

/-- The sum of bytes modulo 256 (R80). -/
def byteSum (bs : List Byte) : Byte := BitVec.ofNat 8 (bs.map BitVec.toNat).sum

/-- The bytes of the events that are not flagged: the consumed bytes, once nothing is skipped. -/
def unflagged (es : List Event) : List Byte := (es.filter fun e => !e.err).map Event.byte

/-- The addresses of an addressed frame and bit 6 of its format byte (R73). -/
structure Addressing where
  modeLow : BitVec 1
  dst : Byte
  src : Byte
  deriving DecidableEq, Repr

/-- A frame to be sent: its four layouts are addressed or compact, with an explicit or an inline length (R75). -/
structure WireFrame where
  addressing : Option Addressing
  explicitLength : Bool
  serviceId : Byte
  payload : List Byte
  deriving DecidableEq, Repr

/-- `L`, the count of the service identifier and the parameters (R74). -/
def WireFrame.length (w : WireFrame) : Nat := w.payload.length + 1

/-- The length can be encoded: 1 to 255 in an explicit length byte, 1 to 63 inline (R74). -/
def WireFrame.Encodable (w : WireFrame) : Prop :=
  if w.explicitLength then w.length ≤ 255 else w.length ≤ 63

/-- The low six bits of the format byte: the inline length, or zero when a length byte follows (R72). -/
def WireFrame.len6 (w : WireFrame) : BitVec 6 := if w.explicitLength then 0#6 else BitVec.ofNat 6 w.length

/-- The bytes before the service identifier (R75, R76). -/
def WireFrame.header (w : WireFrame) : List Byte :=
  let lengthByte := if w.explicitLength then [BitVec.ofNat 8 w.length] else []
  match w.addressing with
  | none => (0b00#2 ++ w.len6) :: lengthByte
  | some a => (1#1 ++ a.modeLow ++ w.len6) :: a.dst :: a.src :: lengthByte

/-- Every byte of the frame but the checksum, in wire order (R76). -/
def WireFrame.summed (w : WireFrame) : List Byte := w.header ++ w.serviceId :: w.payload

/-- The frame's bytes in wire order, the checksum last (R75, R80). -/
def WireFrame.wire (w : WireFrame) : List Byte := w.summed ++ [byteSum w.summed]

end Sys2Proof.Machine
end

