-- ==== Sys2Proof/Certificates/Slice0/Obligations.lean ====
section
/-! DEFINITION. The statements for the provers. Each docstring names the rule of spec/ it formalises; where a clause rests on a
decision of the spec marked as its own (D3, D6, D7, D8, D9, D14, D18) or of the model, it names it and the log entry. Results
are stated on values, not through the model's helper functions, wherever the spec gives them as values. -/

open Sys2Proof Sys2Proof.Machine

/-! ### What each operation does, and what it leaves unchanged

A record update on the right side is the frame: every field it does not name is unchanged. -/

/-- SKIP, 41_event_gating.md (R110): the counter goes down by one, the output is Nothing and nothing else is written; a step
selects it whenever the counter is not zero, whatever the flag, the phase and the byte are. That a flagged event is skipped
too is D9 (log 16). The event's place in the stream and its timestamps are the model's own fields (logs 1, 3). -/
def Obligations.SkipDiscardsEvent : Prop :=
  (∀ (err : Bool) (phase : BitVec 3) (b : Byte) (s : State), s.skipRemaining ≠ 0 →
    exec (.skip err phase b) s =
      .next { s with skipRemaining := s.skipRemaining - 1, outputs := s.outputs ++ [.nothing] }) ∧
  ∀ (s : State) (e : Event) (rest : List Event), s.probe = none → s.input = e :: rest → s.skipRemaining ≠ 0 →
    step s = .next { s with
      skipRemaining := s.skipRemaining - 1, outputs := s.outputs ++ [.nothing]
      input := rest, evStart := e.startTime, evEnd := e.endTime }

/-- R111: BUSERR returns Nothing and writes no field at all; a step selects it whenever the counter is zero and the event is
flagged, whatever the phase and the byte are. The stream and the event's timestamps are the model's own fields (logs 1, 3). -/
def Obligations.BusErrorEventIgnored : Prop :=
  (∀ (phase : BitVec 3) (b : Byte) (s : State),
    exec (.buserr phase b) s = .next { s with outputs := s.outputs ++ [.nothing] }) ∧
  ∀ (s : State) (e : Event) (rest : List Event), s.probe = none → s.input = e :: rest → s.skipRemaining = 0 →
    e.err = true →
    step s = .next { s with
      outputs := s.outputs ++ [.nothing], input := rest, evStart := e.startTime, evEnd := e.endTime }

/-- FMT_COMPACT, 42_header_phases.md (R121). Clearing the presence flags is D8 (log 15), writing `endTime` is D6 (log 13). -/
def Obligations.FmtCompactBeginsFrame : Prop :=
  ∀ (len6 : BitVec 6) (s : State),
    exec (.fmtCompact len6) s = .next { s with
      paramsLen := 0#8, dstPresent := false, srcPresent := false, startTime := s.evStart, endTime := s.evEnd
      remainingLength := BitVec.ofNat 8 len6.toNat
      phase := if len6.toNat = 0 then .length else .serviceId
      runningChecksum := BitVec.ofNat 8 len6.toNat
      outputs := s.outputs ++ [.nothing] }

/-- FMT_UNSUP, 42_header_phases.md (R122): the error spans this byte, and `remaining_length` is not written. Clearing the
presence flags is D8 (log 15), writing `endTime` is D6 (log 13). -/
def Obligations.FmtUnsupRaises : Prop :=
  ∀ (len6 : BitVec 6) (s : State),
    exec (.fmtUnsup len6) s = .next { s with
      phase := .format, paramsLen := 0#8, runningChecksum := 0#8, dstPresent := false, srcPresent := false
      startTime := s.evStart, endTime := s.evEnd
      outputs := s.outputs ++ [.error ⟨.unsupportedFormat, s.evStart, s.evEnd⟩] }

/-- FMT_ADDR, 42_header_phases.md (R123): bit 6 of the byte goes into the sum and nowhere else. Clearing the presence flags is
D8 (log 15), writing `endTime` is D6 (log 13). -/
def Obligations.FmtAddrBeginsFrame : Prop :=
  ∀ (mode : BitVec 1) (len6 : BitVec 6) (s : State),
    exec (.fmtAddr mode len6) s = .next { s with
      paramsLen := 0#8, dstPresent := false, srcPresent := false, startTime := s.evStart, endTime := s.evEnd
      remainingLength := BitVec.ofNat 8 len6.toNat
      phase := .dstAddr
      runningChecksum := BitVec.ofNat 8 (128 + 64 * mode.toNat + len6.toNat)
      outputs := s.outputs ++ [.nothing] }

/-- R124: DST stores the byte, sets the presence flag, goes to SRC_ADDR and adds the byte modulo 256; nothing else is written,
`end_time` aside, which ConsumedEventRecordsEnd states. -/
def Obligations.DstStoresAddress : Prop :=
  ∀ (b : Byte) (s : State), ∃ t, exec (.dst b) s = .next t ∧
    { t with endTime := s.endTime } = { s with
      dstAddr := b, dstPresent := true, phase := .srcAddr
      runningChecksum := BitVec.ofNat 8 (s.runningChecksum.toNat + b.toNat)
      outputs := s.outputs ++ [.nothing] }

/-- R125: SRC stores the byte, sets the presence flag and goes to LENGTH exactly when the length is still zero; nothing else is
written, `end_time` aside. -/
def Obligations.SrcStoresAddress : Prop :=
  ∀ (b : Byte) (s : State), ∃ t, exec (.src b) s = .next t ∧
    { t with endTime := s.endTime } = { s with
      srcAddr := b, srcPresent := true
      phase := if s.remainingLength.toNat = 0 then .length else .serviceId
      runningChecksum := BitVec.ofNat 8 (s.runningChecksum.toNat + b.toNat)
      outputs := s.outputs ++ [.nothing] }

/-- LEN with a byte that is not zero, 42_header_phases.md (R126): all eight bits are the length. Writing `endTime` is D6
(log 13). -/
def Obligations.LenStoresLength : Prop :=
  ∀ (b : Byte) (s : State), b.toNat ≠ 0 →
    exec (.len b) s = .next { s with
      remainingLength := b, phase := .serviceId, endTime := s.evEnd
      runningChecksum := BitVec.ofNat 8 (s.runningChecksum.toNat + b.toNat)
      outputs := s.outputs ++ [.nothing] }

/-- LEN with a zero byte, 42_header_phases.md (R126, R163): InvalidLength, the context reset, the length register zero (R164).
The error's two timestamps are D7 (log 14), clearing the presence flags is D8 (log 15), writing `endTime` is D6 (log 13). -/
def Obligations.LenZeroRaises : Prop :=
  ∀ (b : Byte) (s : State), b.toNat = 0 →
    exec (.len b) s = .next { s with
      remainingLength := 0#8, endTime := s.evEnd
      phase := .format, paramsLen := 0#8, runningChecksum := 0#8, dstPresent := false, srcPresent := false
      outputs := s.outputs ++ [.error ⟨.invalidLength, s.startTime, s.evEnd⟩] }

/-- R140: SID stores the raw byte, bit 6 included, and goes to CHECKSUM exactly when the length is one; nothing else is
written, `end_time` aside, and no name is looked up. -/
def Obligations.SidStoresIdentifier : Prop :=
  ∀ (b : Byte) (s : State), ∃ t, exec (.sid b) s = .next t ∧
    { t with endTime := s.endTime } = { s with
      serviceId := b
      phase := if s.remainingLength.toNat = 1 then .checksum else .params
      runningChecksum := BitVec.ofNat 8 (s.runningChecksum.toNat + b.toNat)
      outputs := s.outputs ++ [.nothing] }

/-- R141: PARAM stores the byte in slot `params_len`, counts it, and goes to CHECKSUM exactly when the count after the append is
`remaining_length - 1`; every other slot reads as before and nothing else is written, `end_time` aside. The premise is R29:
slot `params_len` exists. -/
def Obligations.ParamAppendsByte : Prop :=
  ∀ (b : Byte) (s : State), s.paramsLen.toNat < 254 → ∃ t, exec (.param b) s = .next t ∧
    { t with endTime := s.endTime, params := s.params } = { s with
      paramsLen := BitVec.ofNat 8 (s.paramsLen.toNat + 1)
      phase := if s.paramsLen.toNat + 1 + 1 = s.remainingLength.toNat then .checksum else .params
      runningChecksum := BitVec.ofNat 8 (s.runningChecksum.toNat + b.toNat)
      outputs := s.outputs ++ [.nothing] } ∧
    ∀ a, Memory.read t.params a = if a = s.paramsLen.toNat then some b else Memory.read s.params a

/-- CKS on a match, 43_body_phases.md (R142, R83): the frame carries the stored fields, the slots below `params_len` in order,
the name of the stored identifier and this byte; then the context is reset, and no slot changes. Clearing the presence flags
is D8 (log 15), writing `endTime` is D6 (log 13); the lookup record is the model's own (log 5). -/
def Obligations.CksMatchEmitsFrame : Prop :=
  ∀ (b : Byte) (s : State) (ps : List Byte), b = s.runningChecksum →
    ps.length = s.paramsLen.toNat → (∀ a, a < ps.length → Memory.read s.params a = ps[a]?) →
    ∃ name, (name = if s.serviceId = 0x7F#8 then Name.negativeResponse
        else (sidTable (s.serviceId &&& 0xBF#8)).getD .unknown) ∧
      exec (.cks b) s = .next { s with
        endTime := s.evEnd
        phase := .format, paramsLen := 0#8, runningChecksum := 0#8, dstPresent := false, srcPresent := false
        lookups := s.lookups ++ [⟨s.serviceId, name⟩]
        outputs := s.outputs ++ [.frame {
          dstAddr := if s.dstPresent then some s.dstAddr else none
          srcAddr := if s.srcPresent then some s.srcAddr else none
          serviceId := s.serviceId
          serviceName := name
          params := ps
          checksumByte := b
          startTime := s.startTime
          endTime := s.evEnd }] }

/-- CKS on a mismatch, 43_body_phases.md (R142, R163): InvalidChecksum and the context reset, no name looked up. The error's two
timestamps are D7 (log 14), clearing the presence flags is D8 (log 15), writing `endTime` is D6 (log 13). -/
def Obligations.CksMismatchRaises : Prop :=
  ∀ (b : Byte) (s : State), b ≠ s.runningChecksum →
    exec (.cks b) s = .next { s with
      endTime := s.evEnd
      phase := .format, paramsLen := 0#8, runningChecksum := 0#8, dstPresent := false, srcPresent := false
      outputs := s.outputs ++ [.error ⟨.invalidChecksum, s.startTime, s.evEnd⟩] }

/-- The three SID8 rows, 40_service_table.md (R100, R101, R104): each completes with the row's name in the model's own lookup
record (log 5) and leaves the whole decoder state unchanged. -/
def Obligations.NameRowsComplete : Prop :=
  ∀ s : State,
    exec .sidnameNeg s = .next { s with lookups := s.lookups ++ [⟨0x7F#8, .negativeResponse⟩] } ∧
    (∀ r : BitVec 1, exec (.sidnameTp r) s =
      .next { s with lookups := s.lookups ++ [⟨BitVec.ofNat 8 (0x3E + 64 * r.toNat), .testerPresent⟩] }) ∧
    ∀ b : Byte, exec (.sidnameTbl b) s =
      .next { s with lookups := s.lookups ++ [⟨b, (sidTable (b &&& 0xBF#8)).getD .unknown⟩] }

/-- ILLSTATE, 60_exceptions.md (R166): it stops and emits none of the protocol errors, and no state and event select it, since no
phase has code 7 (R21). That it is a refusal is D14 (log 17); the probe is the model's own (log 4). -/
def Obligations.IllegalPhaseStops : Prop :=
  (∀ (b : Byte) (s : State), exec (.illstate b) s = .refused .internalInconsistency) ∧
  (∀ (b : Byte) (s : State), s.probe = some (.phase7 b) → step s = .refused .internalInconsistency) ∧
  ∀ (s : State) (e : Event) (rest : List Event), s.probe = none → s.input = e :: rest →
    step s ≠ .refused .internalInconsistency

/-- The three stops and nothing else: ILLSTATE is refused (60_exceptions.md R166; that it is a refusal is D14, log 17), an append
above slot 253 faults (R52, log 7), a frame with a slot that holds no value faults (93_implementation_defined.md U8, log 7);
each stop happens exactly where it says, and every operation completes everywhere else. -/
def Obligations.StopsExactly : Prop :=
  ∀ (i : Instr) (s : State),
    (exec i s = .refused .internalInconsistency ↔ ∃ b, i = .illstate b) ∧
    (exec i s = .fault .paramsOutOfRange ↔ (∃ b, i = .param b) ∧ 254 ≤ s.paramsLen.toNat) ∧
    (exec i s = .fault .unwrittenSlot ↔
      i = .cks s.runningChecksum ∧ ∃ a, a < s.paramsLen.toNat ∧ Memory.read s.params a = none) ∧
    ((∃ t, exec i s = .next t) ↔
      (∀ b, i ≠ .illstate b) ∧ ¬ ((∃ b, i = .param b) ∧ 254 ≤ s.paramsLen.toNat) ∧
      ¬ (i = .cks s.runningChecksum ∧ ∃ a, a < s.paramsLen.toNat ∧ Memory.read s.params a = none))

/-! ### Decoding and the step -/

/-- What a step runs (R85 to R87): the operation that the decoder reads from the two bytes of the event's dispatch word, in the
state with the event taken from the stream. The phase numbers are D3, the word D18 (log 12), its bytes log 21; probes and
the idle step are the model's own (logs 1, 4). -/
def Obligations.StepRunsDecodedOperation : Prop :=
  (∀ (s : State) (e : Event) (rest : List Event), s.probe = none → s.input = e :: rest →
    ∃ i, decode [e.byte, BitVec.ofNat 8 ((if s.skipRemaining = 0 then 0 else 16) + (if e.err then 8 else 0) +
        (match s.phase with
          | .format => 0 | .dstAddr => 1 | .srcAddr => 2 | .length => 3 | .serviceId => 4 | .params => 5 | .checksum => 6))]
        = .ok i ∧
      step s = exec i { s with input := rest, evStart := e.startTime, evEnd := e.endTime }) ∧
  (∀ (s : State) (b : Byte), s.probe = some (.sid8 b) →
    ∃ i, decode [b] = .ok i ∧ step s = exec i { s with probe := none }) ∧
  (∀ (s : State) (b : Byte), s.probe = some (.phase7 b) →
    ∃ i, decode [b, 7#8] = .ok i ∧ step s = exec i { s with probe := none }) ∧
  ∀ s : State, s.probe = none → s.input = [] → step s = .next s

/-- The operation map of R86: exactly one DISPATCH13 row of opcode_table.json covers each of the 8192 words, and it is the row
of the operation the decoder reads; of the SID8 rows, tried in priority order, the decoder takes the first that covers the
byte. The dispatch word is D18 (log 12). -/
def Obligations.DispatchRowsPartition : Prop :=
  (∀ w : DispatchWord, dispatchRows.filter (fun r => r.covers w.toNat) = [(decodeDispatch w).row]) ∧
  ∀ b : Byte,
    [Instr.row .sidnameNeg, Instr.row (.sidnameTp 0#1), Instr.row (.sidnameTbl 0#8)].find? (fun r => r.covers b.toNat) =
      some (decodeSid8 b).row

/-- Decoding an encoded well-formed operation gives it back, with every operand at every value its word admits (R86). -/
def Obligations.DecodeOfEncode : Prop :=
  ∀ i : Instr, i.WellFormed → decode (encode i) = .ok i

/-- Each word has one meaning: whatever the decoder reads from some bytes is well formed and encodes to those bytes (R86). -/
def Obligations.EncodeOfDecode : Prop :=
  ∀ (bs : List Byte) (i : Instr), decode bs = .ok i → i.WellFormed ∧ encode i = bs

/-- Words written out from R85 and R86, as bytes in the model's order (log 21), decode to the operations they stand for, one or
two of each family. The dispatch word is D18 (log 12). -/
def Obligations.KnownWordsDecode : Prop :=
  decode [0x45#8, 0x10#8] = .ok (.skip false 0#3 0x45#8) ∧
  decode [0xAA#8, 0x0A#8] = .ok (.buserr 2#3 0xAA#8) ∧
  decode [0x3F#8, 0x00#8] = .ok (.fmtCompact 63#6) ∧
  decode [0x45#8, 0x00#8] = .ok (.fmtUnsup 5#6) ∧
  decode [0xC1#8, 0x00#8] = .ok (.fmtAddr 1#1 1#6) ∧
  decode [0xF1#8, 0x02#8] = .ok (.src 0xF1#8) ∧
  decode [0x7F#8, 0x04#8] = .ok (.sid 0x7F#8) ∧
  decode [0x40#8, 0x06#8] = .ok (.cks 0x40#8) ∧
  decode [0x7E#8] = .ok (.sidnameTp 1#1) ∧
  decode [0xBE#8] = .ok (.sidnameTbl 0xBE#8)

/-- What the decoder rejects: no byte, more than two bytes, and two bytes with a value above 13 bits (R85). The byte layout is
the model's (log 21). -/
def Obligations.DecodeRejectsExactly : Prop :=
  ∀ bs : List Byte, (∃ r, decode bs = .error r) ↔
    bs.length = 0 ∨ 2 < bs.length ∨ ∃ lo hi : Byte, bs = [lo, hi] ∧ 8192 ≤ lo.toNat + 256 * hi.toNat

/-- The whole step is the listing of R87, to which `State.feed` adds what R87 does not have: the two faults of log 7 and the
lookup record of log 5. The listing includes D6, D7, D8 and D9 (logs 13 to 16). -/
def Obligations.StepIsFeedListing : Prop :=
  ∀ (s : State) (e : Event) (rest : List Event), s.probe = none → s.input = e :: rest →
    step s = State.feed e { s with input := rest, evStart := e.startTime, evEnd := e.endTime }

/-- R22: the full next-state function of the phase register, a row for each operation. -/
def Obligations.NextPhaseTable : Prop :=
  ∀ (s t : State) (e : Event) (rest : List Event), s.probe = none → s.input = e :: rest → step s = .next t →
    t.phase =
      if s.skipRemaining ≠ 0 ∨ e.err = true then s.phase
      else match s.phase with
        | .format =>
          if e.byte.toNat / 64 = 0 then (if e.byte.toNat % 64 = 0 then .length else .serviceId)
          else if e.byte.toNat / 64 = 1 then .format
          else .dstAddr
        | .dstAddr => .srcAddr
        | .srcAddr => if s.remainingLength.toNat = 0 then .length else .serviceId
        | .length => if e.byte.toNat = 0 then .format else .serviceId
        | .serviceId => if s.remainingLength.toNat = 1 then .checksum else .params
        | .params => if s.paramsLen.toNat + 1 + 1 = s.remainingLength.toNat then .checksum else .params
        | .checksum => .format

/-- R31: CksAdd happens once in the step of a consumed event that is not the checksum byte and raises nothing (after the
clearing of the accumulator, for a format byte); a discarded or flagged event leaves the accumulator alone; and the byte of
an emitting step is never added. -/
def Obligations.ChecksumAddedOnce : Prop :=
  ∀ (s t : State) (e : Event) (rest : List Event), s.probe = none → s.input = e :: rest → step s = .next t →
    (s.skipRemaining ≠ 0 ∨ e.err = true → t.runningChecksum = s.runningChecksum) ∧
    (s.skipRemaining = 0 → e.err = false → t.outputs = s.outputs ++ [.nothing] →
      t.runningChecksum.toNat = ((if s.phase = .format then 0 else s.runningChecksum.toNat) + e.byte.toNat) % 256) ∧
    (t.outputs ≠ s.outputs ++ [.nothing] → t.runningChecksum = 0#8) ∧
    (s.skipRemaining = 0 → e.err = false → s.phase = .checksum → t.runningChecksum = 0#8)

/-- One output for each event, and which step gives which (30_encoding.md R82, R92, 60_exceptions.md R160). -/
def Obligations.OneOutputPerEvent : Prop :=
  ∀ (s t : State) (e : Event) (rest : List Event), s.probe = none → s.input = e :: rest → step s = .next t →
    t.input = rest ∧ t.probe = none ∧ ∃ o, t.outputs = s.outputs ++ [o] ∧
      ((∃ f, o = .frame f) ↔
        s.skipRemaining = 0 ∧ e.err = false ∧ s.phase = .checksum ∧ e.byte = s.runningChecksum) ∧
      ((∃ d, o = .error d ∧ d.kind = .unsupportedFormat) ↔
        s.skipRemaining = 0 ∧ e.err = false ∧ s.phase = .format ∧ e.byte.toNat / 64 = 1) ∧
      ((∃ d, o = .error d ∧ d.kind = .invalidLength) ↔
        s.skipRemaining = 0 ∧ e.err = false ∧ s.phase = .length ∧ e.byte.toNat = 0) ∧
      ((∃ d, o = .error d ∧ d.kind = .invalidChecksum) ↔
        s.skipRemaining = 0 ∧ e.err = false ∧ s.phase = .checksum ∧ e.byte ≠ s.runningChecksum)

/-- The operations that write each field, whatever the operands (10_state.md R22 to R28, R30, R32 to R34): every other operation
leaves the field as it was. In particular nothing but SKIP touches the skip counter, so neither an error nor a frame re-arms
it (70_reset_and_hazards.md R191), and no slot but the one at the fill count of the state before is ever written (R28). The
clearing of the presence flags is D8 (log 15), the writing of `end_time` D6 (log 13). -/
def Obligations.FieldWriters : Prop :=
  ∀ (i : Instr) (s t : State), exec i s = .next t →
    (t.phase = s.phase ∨ i.consumesEvent = true) ∧
    (t.remainingLength = s.remainingLength ∨
      (∃ l, i = .fmtCompact l) ∨ (∃ m l, i = .fmtAddr m l) ∨ ∃ b, i = .len b) ∧
    (t.dstPresent = s.dstPresent ∨ (∃ b, i = .dst b) ∨ i.clearsContext = true) ∧
    (t.dstAddr = s.dstAddr ∨ ∃ b, i = .dst b) ∧
    (t.srcPresent = s.srcPresent ∨ (∃ b, i = .src b) ∨ i.clearsContext = true) ∧
    (t.srcAddr = s.srcAddr ∨ ∃ b, i = .src b) ∧
    (t.serviceId = s.serviceId ∨ ∃ b, i = .sid b) ∧
    (t.paramsLen = s.paramsLen ∨ (∃ b, i = .param b) ∨ i.clearsContext = true) ∧
    (t.params = s.params ∨ ∃ b, i = .param b) ∧
    (∀ a, a ≠ s.paramsLen.toNat → Memory.read t.params a = Memory.read s.params a) ∧
    (t.runningChecksum = s.runningChecksum ∨ i.consumesEvent = true) ∧
    (t.startTime = s.startTime ∨ i.beginsFrame = true) ∧
    (t.endTime = s.endTime ∨ i.consumesEvent = true) ∧
    (t.skipRemaining = s.skipRemaining ∨ ∃ f p b, i = .skip f p b)

/-- The preamble of every consumed event (R120) and no other: the nine operations of a consumed event that go on set `end_time`
to the event's end, the others leave it. When `end_time` is written is D6 (log 13). -/
def Obligations.ConsumedEventRecordsEnd : Prop :=
  ∀ (i : Instr) (s t : State), exec i s = .next t →
    t.endTime = match i with
      | .skip _ _ _ | .buserr _ _ | .sidnameNeg | .sidnameTp _ | .sidnameTbl _ => s.endTime
      | .fmtCompact _ | .fmtUnsup _ | .fmtAddr _ _ | .dst _ | .src _ | .len _ | .sid _ | .param _ | .cks _
      | .illstate _ => s.evEnd

/-! ### The Service Identifier Table -/

/-- R100: whichever SID8 row a byte selects, what is evaluated is `SidName` of that byte: 0x7F before the table, then the table
at the byte with bit 6 cleared, then "unknown"; no state is written but the model's own lookup record (log 5). -/
def Obligations.SidRowsComputeSidName : Prop :=
  ∀ (b : Byte) (s : State),
    exec (decodeSid8 b) s = .next { s with lookups := s.lookups ++ [⟨b,
      if b = 0x7F#8 then .negativeResponse
      else match sidTable (b &&& 0xBF#8) with
        | none => .unknown
        | some n => n⟩] }

/-- 20_memory.md R59 and the corner cases of R100, for every table: a request and its response resolve alike unless one of them
is 0x7F, and rows at keys with bit 6 set are never returned. -/
def Obligations.NameIgnoresResponseBit : Prop :=
  (∀ (table : Byte → Option Name) (b : Byte), b ≠ 0x7F#8 → b ^^^ 0x40#8 ≠ 0x7F#8 →
    sidNameIn table (b ^^^ 0x40#8) = sidNameIn table b) ∧
  ∀ (table other : Byte → Option Name), (∀ k : Byte, k.getLsbD 6 = false → table k = other k) →
    ∀ b, sidNameIn table b = sidNameIn other b

/-- R106: in the step of an event, `SidName` is evaluated exactly once when a frame is emitted, on the stored identifier, and the
frame carries the identifier and the result; and it is not evaluated in any other step. The lookup record is the model's own
way to count (log 5). -/
def Obligations.NameEvaluatedOncePerFrame : Prop :=
  ∀ (s t : State) (e : Event) (rest : List Event), s.probe = none → s.input = e :: rest → step s = .next t →
    (∀ f, t.outputs = s.outputs ++ [.frame f] →
      f.serviceId = s.serviceId ∧ f.serviceName = sidName s.serviceId ∧
        t.lookups = s.lookups ++ [⟨s.serviceId, sidName s.serviceId⟩]) ∧
    ((∀ f, t.outputs ≠ s.outputs ++ [.frame f]) → t.lookups = s.lookups)

/-! ### Construction and the invariant -/

/-- What construction leaves, of the fields the spec gives a value (10_state.md R43, 70_reset_and_hazards.md R190): with every
SKIP_COUNT `n`, the empty form, no slot holding a value, nothing emitted, and the skip counter at `n`; and reset is
construction with the platform's SKIP_COUNT, `Config.skipCount` (log 8). -/
def Obligations.ConstructionValues : Prop :=
  (∀ n, (State.init n).skipRemaining = n ∧ (State.init n).phase = .format ∧ (State.init n).runningChecksum = 0#8 ∧
    (State.init n).paramsLen = 0#8 ∧ (State.init n).dstPresent = false ∧ (State.init n).srcPresent = false ∧
    (∀ a, Memory.read (State.init n).params a = none) ∧ (State.init n).outputs = []) ∧
  State.reset = State.init Config.skipCount ∧ State.reset.skipRemaining = Config.skipCount

/-- The invariant holds right after reset, and after construction with any SKIP_COUNT (R40, R41, R43). -/
def Obligations.ConstructionMeetsInvariant : Prop :=
  State.reset.Inv ∧ ∀ n, (State.init n).Inv

/-- The invariant (R39 in phase FORMAT, R40, R41, R42, and the canonical form of the buffer) is kept by every step from every
state that meets it. The presence clauses rest on D8 (log 15). -/
def Obligations.StepKeepsInvariant : Prop :=
  ∀ s t : State, s.Inv → step s = .next t → t.Inv

/-- `feed` is total (60_exceptions.md R165): from every state that meets the invariant a step answers a next state, unless the
model's own probe (log 4) puts the word of ILLSTATE. -/
def Obligations.StepTotalOnInvariant : Prop :=
  ∀ s : State, s.Inv → (∀ b, s.probe ≠ some (.phase7 b)) → ∃ t, step s = .next t

/-- The shape of an emitted frame (10_state.md R41, 43_body_phases.md R143): both addresses or neither, as many parameters as the
length says, each the byte of its slot, and the received checksum equal to the accumulator. The addresses clause rests on
D8 (log 15). -/
def Obligations.EmittedFrameShape : Prop :=
  ∀ (s t : State) (e : Event) (rest : List Event) (f : DecodedFrame), s.Inv → s.probe = none → s.input = e :: rest →
    step s = .next t → t.outputs = s.outputs ++ [.frame f] →
    f.dstAddr.isSome = f.srcAddr.isSome ∧ f.params.length + 1 = s.remainingLength.toNat ∧
    (∀ a, a < f.params.length → f.params[a]? = Memory.read s.params a) ∧
    f.checksumByte = e.byte ∧ e.byte = s.runningChecksum ∧ f.startTime = s.startTime ∧ f.endTime = e.endTime

/-- Resync on next byte (60_exceptions.md R170, 10_state.md R36): after an error, and equally after a frame, the context is the
empty form, and the next consumed event is taken as a format byte whatever came before. Clearing the presence flags is D8
(log 15). -/
def Obligations.RecoveryAfterEmission : Prop :=
  ∀ (s t : State) (e : Event) (rest : List Event) (o : Output), s.probe = none → s.input = e :: rest → step s = .next t →
    t.outputs = s.outputs ++ [o] → o ≠ .nothing →
    t.phase = .format ∧ t.runningChecksum = 0#8 ∧ t.paramsLen = 0#8 ∧ t.dstPresent = false ∧ t.srcPresent = false ∧
    ∀ (e' : Event) (rest' : List Event), rest = e' :: rest' → e'.err = false →
      step t = exec (decodeFormatByte e'.byte) { t with input := rest', evStart := e'.startTime, evEnd := e'.endTime }

/-! ### Runs -/

/-- One output for each event fed (00_scope.md R9, 70_reset_and_hazards.md R203): `k` steps of a run take the first `k` events
and give `k` outputs, and nothing is emitted for what is left in progress. -/
def Obligations.RunGivesOneOutputPerEvent : Prop :=
  ∀ (k : Nat) (s t : State), s.probe = none → k ≤ s.input.length → Host.Core.run Sys2Proof.core k s = .next t →
    t.input = s.input.drop k ∧ ∃ os, os.length = k ∧ t.outputs = s.outputs ++ os

/-- The checksum invariant (10_state.md R39): as long as nothing is emitted, the accumulator is the sum modulo 256 of every
consumed byte since the frame began; and a frame emitted next carries that sum as its checksum byte (R144). Flagged events
may lie anywhere between. -/
def Obligations.ChecksumAccumulatesFrame : Prop :=
  ∀ (s t : State) (es rest : List Event), s.Inv → s.phase = .format → s.skipRemaining = 0 → s.probe = none →
    s.input = es ++ rest → Host.Core.run Sys2Proof.core es.length s = .next t →
    t.outputs = s.outputs ++ List.replicate es.length .nothing →
    t.runningChecksum = byteSum (unflagged es) ∧
    ∀ (u : State) (f : DecodedFrame), step t = .next u → u.outputs = t.outputs ++ [.frame f] →
      f.checksumByte = byteSum (unflagged es)

/-- Every frame of the four layouts is decoded (30_encoding.md R74 to R76, R80, 43_body_phases.md R143, R144): fed from phase
FORMAT, it gives Nothing for every byte but the last, and on its checksum byte the frame with its addresses, identifier,
name, parameters in wire order, checksum, and the span from its first byte to its last; the decoder is then back in phase
FORMAT and the rest of the stream is untouched. That a compact frame has no addresses whatever came before rests on D8
(log 15). -/
def Obligations.WireFramesDecode : Prop :=
  ∀ (w : WireFrame) (s : State) (es rest : List Event) (first last : Event), w.Encodable → s.Inv → s.phase = .format →
    s.skipRemaining = 0 → s.probe = none → s.input = es ++ rest → es.map Event.byte = w.wire →
    (∀ e ∈ es, e.err = false) → es.head? = some first → es.getLast? = some last →
    ∃ t, Host.Core.run Sys2Proof.core es.length s = .next t ∧
      t.outputs = s.outputs ++ List.replicate (es.length - 1) .nothing ++ [.frame {
        dstAddr := w.addressing.map Addressing.dst
        srcAddr := w.addressing.map Addressing.src
        serviceId := w.serviceId
        serviceName := sidName w.serviceId
        params := w.payload
        checksumByte := byteSum w.summed
        startTime := first.startTime
        endTime := last.endTime }] ∧
      t.phase = .format ∧ t.input = rest ∧ t.skipRemaining = 0 ∧ t.probe = none

/-- Skip isolation (41_event_gating.md R113): an instance constructed with SKIP_COUNT `n` on a stream gives `n` times Nothing and
then the outputs of an instance constructed with SKIP_COUNT 0 on the stream without its first `n` events, and the two agree
in every field of the decoder after every corresponding step. That every event counts is D9 (log 16); the timestamps of the
event of the last step are the model's own (log 3). -/
def Obligations.SkipIsolation : Prop :=
  ∀ (n k : Nat) (es : List Event), n + k ≤ es.length →
    ∃ t u, Host.Core.run Sys2Proof.core (n + k) { State.init n with input := es } = .next t ∧
      Host.Core.run Sys2Proof.core k { State.init 0 with input := es.drop n } = .next u ∧
      t.outputs = List.replicate n .nothing ++ u.outputs ∧
      { t with outputs := u.outputs, evStart := u.evStart, evEnd := u.evEnd } = u

/-- Error-byte isolation over a run (41_event_gating.md R111, 43_body_phases.md R145): a stream with flagged events leaves the
decoder in the same state, and gives the same frames and errors, as the stream without them. The timestamps of the event of
the last step are the model's own (log 3). -/
def Obligations.BusErrorIsolation : Prop :=
  ∀ (s t : State) (es : List Event), s.probe = none → s.skipRemaining = 0 →
    Host.Core.run Sys2Proof.core es.length { s with input := es } = .next t →
    ∃ u, Host.Core.run Sys2Proof.core (es.filter fun e => !e.err).length { s with input := es.filter fun e => !e.err } =
        .next u ∧
      t.outputs.filter Output.emits = u.outputs.filter Output.emits ∧
      { t with outputs := u.outputs, evStart := u.evStart, evEnd := u.evEnd } = u

/-! ### What cannot be seen -/

/-- Timestamps are copied and never inspected (91_not_in_source.md N4, 70_reset_and_hazards.md R207): replacing every timestamp
of a state by any function of it commutes with a step. So no output depends on what the timestamps are, whatever the OPEN type `Time` is (log 10). -/
def Obligations.TimestampsOnlyCopied : Prop :=
  ∀ (f : Time → Time) (s : State),
    match step s with
    | .next t => step (s.mapTime f) = .next (t.mapTime f)
    | .fault r => step (s.mapTime f) = .fault r
    | .refused r => step (s.mapTime f) = .refused r

/-- No read before write (10_state.md R42, R43): two states that differ only in fields no later output can depend on take steps
with the same outcome and stay so, with equal outputs; and the values construction leaves in the fields to which the spec
gives none make no difference. So the reset values of log 6 cannot be observed. -/
def Obligations.UnwrittenValuesUnobservable : Prop :=
  (∀ s s' : State, s.Agree s' →
    match step s with
    | .next t => ∃ t', step s' = .next t' ∧ t.Agree t'
    | .fault r => step s' = .fault r
    | .refused r => step s' = .refused r) ∧
  ∀ (n : Nat) (es : List Event) (len dst src sid : Byte) (params : Memory) (t0 t1 t2 t3 : Time),
    State.Agree { State.init n with input := es } { State.init n with
      input := es, remainingLength := len, dstAddr := dst, srcAddr := src, serviceId := sid, params := params
      startTime := t0, endTime := t1, evStart := t2, evEnd := t3 }
end

