-- ==== Sys2Proof/Laws/State.lean ====
section
/-! SUPPORT. One lemma for each field of State and each named register update of Machine/Ops.lean, true by rfl, so that no
proof unfolds a record update. -/

namespace Sys2Proof.Machine

variable (s : State)

/-! ### goto -/

@[simp] theorem State.goto_phase (p : Phase) : (s.goto p).phase = p := rfl
@[simp] theorem State.goto_remainingLength (p : Phase) : (s.goto p).remainingLength = s.remainingLength := rfl
@[simp] theorem State.goto_dstPresent (p : Phase) : (s.goto p).dstPresent = s.dstPresent := rfl
@[simp] theorem State.goto_dstAddr (p : Phase) : (s.goto p).dstAddr = s.dstAddr := rfl
@[simp] theorem State.goto_srcPresent (p : Phase) : (s.goto p).srcPresent = s.srcPresent := rfl
@[simp] theorem State.goto_srcAddr (p : Phase) : (s.goto p).srcAddr = s.srcAddr := rfl
@[simp] theorem State.goto_serviceId (p : Phase) : (s.goto p).serviceId = s.serviceId := rfl
@[simp] theorem State.goto_paramsLen (p : Phase) : (s.goto p).paramsLen = s.paramsLen := rfl
@[simp] theorem State.goto_params (p : Phase) : (s.goto p).params = s.params := rfl
@[simp] theorem State.goto_runningChecksum (p : Phase) : (s.goto p).runningChecksum = s.runningChecksum := rfl
@[simp] theorem State.goto_startTime (p : Phase) : (s.goto p).startTime = s.startTime := rfl
@[simp] theorem State.goto_endTime (p : Phase) : (s.goto p).endTime = s.endTime := rfl
@[simp] theorem State.goto_skipRemaining (p : Phase) : (s.goto p).skipRemaining = s.skipRemaining := rfl
@[simp] theorem State.goto_input (p : Phase) : (s.goto p).input = s.input := rfl
@[simp] theorem State.goto_evStart (p : Phase) : (s.goto p).evStart = s.evStart := rfl
@[simp] theorem State.goto_evEnd (p : Phase) : (s.goto p).evEnd = s.evEnd := rfl
@[simp] theorem State.goto_outputs (p : Phase) : (s.goto p).outputs = s.outputs := rfl
@[simp] theorem State.goto_lookups (p : Phase) : (s.goto p).lookups = s.lookups := rfl
@[simp] theorem State.goto_probe (p : Phase) : (s.goto p).probe = s.probe := rfl

/-! ### setLength -/

@[simp] theorem State.setLength_phase (v : Byte) : (s.setLength v).phase = s.phase := rfl
@[simp] theorem State.setLength_remainingLength (v : Byte) : (s.setLength v).remainingLength = v := rfl
@[simp] theorem State.setLength_dstPresent (v : Byte) : (s.setLength v).dstPresent = s.dstPresent := rfl
@[simp] theorem State.setLength_dstAddr (v : Byte) : (s.setLength v).dstAddr = s.dstAddr := rfl
@[simp] theorem State.setLength_srcPresent (v : Byte) : (s.setLength v).srcPresent = s.srcPresent := rfl
@[simp] theorem State.setLength_srcAddr (v : Byte) : (s.setLength v).srcAddr = s.srcAddr := rfl
@[simp] theorem State.setLength_serviceId (v : Byte) : (s.setLength v).serviceId = s.serviceId := rfl
@[simp] theorem State.setLength_paramsLen (v : Byte) : (s.setLength v).paramsLen = s.paramsLen := rfl
@[simp] theorem State.setLength_params (v : Byte) : (s.setLength v).params = s.params := rfl
@[simp] theorem State.setLength_runningChecksum (v : Byte) : (s.setLength v).runningChecksum = s.runningChecksum := rfl
@[simp] theorem State.setLength_startTime (v : Byte) : (s.setLength v).startTime = s.startTime := rfl
@[simp] theorem State.setLength_endTime (v : Byte) : (s.setLength v).endTime = s.endTime := rfl
@[simp] theorem State.setLength_skipRemaining (v : Byte) : (s.setLength v).skipRemaining = s.skipRemaining := rfl
@[simp] theorem State.setLength_input (v : Byte) : (s.setLength v).input = s.input := rfl
@[simp] theorem State.setLength_evStart (v : Byte) : (s.setLength v).evStart = s.evStart := rfl
@[simp] theorem State.setLength_evEnd (v : Byte) : (s.setLength v).evEnd = s.evEnd := rfl
@[simp] theorem State.setLength_outputs (v : Byte) : (s.setLength v).outputs = s.outputs := rfl
@[simp] theorem State.setLength_lookups (v : Byte) : (s.setLength v).lookups = s.lookups := rfl
@[simp] theorem State.setLength_probe (v : Byte) : (s.setLength v).probe = s.probe := rfl

/-! ### setDst -/

@[simp] theorem State.setDst_phase (b : Byte) : (s.setDst b).phase = s.phase := rfl
@[simp] theorem State.setDst_remainingLength (b : Byte) : (s.setDst b).remainingLength = s.remainingLength := rfl
@[simp] theorem State.setDst_dstPresent (b : Byte) : (s.setDst b).dstPresent = true := rfl
@[simp] theorem State.setDst_dstAddr (b : Byte) : (s.setDst b).dstAddr = b := rfl
@[simp] theorem State.setDst_srcPresent (b : Byte) : (s.setDst b).srcPresent = s.srcPresent := rfl
@[simp] theorem State.setDst_srcAddr (b : Byte) : (s.setDst b).srcAddr = s.srcAddr := rfl
@[simp] theorem State.setDst_serviceId (b : Byte) : (s.setDst b).serviceId = s.serviceId := rfl
@[simp] theorem State.setDst_paramsLen (b : Byte) : (s.setDst b).paramsLen = s.paramsLen := rfl
@[simp] theorem State.setDst_params (b : Byte) : (s.setDst b).params = s.params := rfl
@[simp] theorem State.setDst_runningChecksum (b : Byte) : (s.setDst b).runningChecksum = s.runningChecksum := rfl
@[simp] theorem State.setDst_startTime (b : Byte) : (s.setDst b).startTime = s.startTime := rfl
@[simp] theorem State.setDst_endTime (b : Byte) : (s.setDst b).endTime = s.endTime := rfl
@[simp] theorem State.setDst_skipRemaining (b : Byte) : (s.setDst b).skipRemaining = s.skipRemaining := rfl
@[simp] theorem State.setDst_input (b : Byte) : (s.setDst b).input = s.input := rfl
@[simp] theorem State.setDst_evStart (b : Byte) : (s.setDst b).evStart = s.evStart := rfl
@[simp] theorem State.setDst_evEnd (b : Byte) : (s.setDst b).evEnd = s.evEnd := rfl
@[simp] theorem State.setDst_outputs (b : Byte) : (s.setDst b).outputs = s.outputs := rfl
@[simp] theorem State.setDst_lookups (b : Byte) : (s.setDst b).lookups = s.lookups := rfl
@[simp] theorem State.setDst_probe (b : Byte) : (s.setDst b).probe = s.probe := rfl

/-! ### setSrc -/

@[simp] theorem State.setSrc_phase (b : Byte) : (s.setSrc b).phase = s.phase := rfl
@[simp] theorem State.setSrc_remainingLength (b : Byte) : (s.setSrc b).remainingLength = s.remainingLength := rfl
@[simp] theorem State.setSrc_dstPresent (b : Byte) : (s.setSrc b).dstPresent = s.dstPresent := rfl
@[simp] theorem State.setSrc_dstAddr (b : Byte) : (s.setSrc b).dstAddr = s.dstAddr := rfl
@[simp] theorem State.setSrc_srcPresent (b : Byte) : (s.setSrc b).srcPresent = true := rfl
@[simp] theorem State.setSrc_srcAddr (b : Byte) : (s.setSrc b).srcAddr = b := rfl
@[simp] theorem State.setSrc_serviceId (b : Byte) : (s.setSrc b).serviceId = s.serviceId := rfl
@[simp] theorem State.setSrc_paramsLen (b : Byte) : (s.setSrc b).paramsLen = s.paramsLen := rfl
@[simp] theorem State.setSrc_params (b : Byte) : (s.setSrc b).params = s.params := rfl
@[simp] theorem State.setSrc_runningChecksum (b : Byte) : (s.setSrc b).runningChecksum = s.runningChecksum := rfl
@[simp] theorem State.setSrc_startTime (b : Byte) : (s.setSrc b).startTime = s.startTime := rfl
@[simp] theorem State.setSrc_endTime (b : Byte) : (s.setSrc b).endTime = s.endTime := rfl
@[simp] theorem State.setSrc_skipRemaining (b : Byte) : (s.setSrc b).skipRemaining = s.skipRemaining := rfl
@[simp] theorem State.setSrc_input (b : Byte) : (s.setSrc b).input = s.input := rfl
@[simp] theorem State.setSrc_evStart (b : Byte) : (s.setSrc b).evStart = s.evStart := rfl
@[simp] theorem State.setSrc_evEnd (b : Byte) : (s.setSrc b).evEnd = s.evEnd := rfl
@[simp] theorem State.setSrc_outputs (b : Byte) : (s.setSrc b).outputs = s.outputs := rfl
@[simp] theorem State.setSrc_lookups (b : Byte) : (s.setSrc b).lookups = s.lookups := rfl
@[simp] theorem State.setSrc_probe (b : Byte) : (s.setSrc b).probe = s.probe := rfl

/-! ### setServiceId -/

@[simp] theorem State.setServiceId_phase (b : Byte) : (s.setServiceId b).phase = s.phase := rfl
@[simp] theorem State.setServiceId_remainingLength (b : Byte) : (s.setServiceId b).remainingLength = s.remainingLength := rfl
@[simp] theorem State.setServiceId_dstPresent (b : Byte) : (s.setServiceId b).dstPresent = s.dstPresent := rfl
@[simp] theorem State.setServiceId_dstAddr (b : Byte) : (s.setServiceId b).dstAddr = s.dstAddr := rfl
@[simp] theorem State.setServiceId_srcPresent (b : Byte) : (s.setServiceId b).srcPresent = s.srcPresent := rfl
@[simp] theorem State.setServiceId_srcAddr (b : Byte) : (s.setServiceId b).srcAddr = s.srcAddr := rfl
@[simp] theorem State.setServiceId_serviceId (b : Byte) : (s.setServiceId b).serviceId = b := rfl
@[simp] theorem State.setServiceId_paramsLen (b : Byte) : (s.setServiceId b).paramsLen = s.paramsLen := rfl
@[simp] theorem State.setServiceId_params (b : Byte) : (s.setServiceId b).params = s.params := rfl
@[simp] theorem State.setServiceId_runningChecksum (b : Byte) : (s.setServiceId b).runningChecksum = s.runningChecksum := rfl
@[simp] theorem State.setServiceId_startTime (b : Byte) : (s.setServiceId b).startTime = s.startTime := rfl
@[simp] theorem State.setServiceId_endTime (b : Byte) : (s.setServiceId b).endTime = s.endTime := rfl
@[simp] theorem State.setServiceId_skipRemaining (b : Byte) : (s.setServiceId b).skipRemaining = s.skipRemaining := rfl
@[simp] theorem State.setServiceId_input (b : Byte) : (s.setServiceId b).input = s.input := rfl
@[simp] theorem State.setServiceId_evStart (b : Byte) : (s.setServiceId b).evStart = s.evStart := rfl
@[simp] theorem State.setServiceId_evEnd (b : Byte) : (s.setServiceId b).evEnd = s.evEnd := rfl
@[simp] theorem State.setServiceId_outputs (b : Byte) : (s.setServiceId b).outputs = s.outputs := rfl
@[simp] theorem State.setServiceId_lookups (b : Byte) : (s.setServiceId b).lookups = s.lookups := rfl
@[simp] theorem State.setServiceId_probe (b : Byte) : (s.setServiceId b).probe = s.probe := rfl

/-! ### countSkip -/

@[simp] theorem State.countSkip_phase : (s.countSkip).phase = s.phase := rfl
@[simp] theorem State.countSkip_remainingLength : (s.countSkip).remainingLength = s.remainingLength := rfl
@[simp] theorem State.countSkip_dstPresent : (s.countSkip).dstPresent = s.dstPresent := rfl
@[simp] theorem State.countSkip_dstAddr : (s.countSkip).dstAddr = s.dstAddr := rfl
@[simp] theorem State.countSkip_srcPresent : (s.countSkip).srcPresent = s.srcPresent := rfl
@[simp] theorem State.countSkip_srcAddr : (s.countSkip).srcAddr = s.srcAddr := rfl
@[simp] theorem State.countSkip_serviceId : (s.countSkip).serviceId = s.serviceId := rfl
@[simp] theorem State.countSkip_paramsLen : (s.countSkip).paramsLen = s.paramsLen := rfl
@[simp] theorem State.countSkip_params : (s.countSkip).params = s.params := rfl
@[simp] theorem State.countSkip_runningChecksum : (s.countSkip).runningChecksum = s.runningChecksum := rfl
@[simp] theorem State.countSkip_startTime : (s.countSkip).startTime = s.startTime := rfl
@[simp] theorem State.countSkip_endTime : (s.countSkip).endTime = s.endTime := rfl
@[simp] theorem State.countSkip_skipRemaining : (s.countSkip).skipRemaining = s.skipRemaining - 1 := rfl
@[simp] theorem State.countSkip_input : (s.countSkip).input = s.input := rfl
@[simp] theorem State.countSkip_evStart : (s.countSkip).evStart = s.evStart := rfl
@[simp] theorem State.countSkip_evEnd : (s.countSkip).evEnd = s.evEnd := rfl
@[simp] theorem State.countSkip_outputs : (s.countSkip).outputs = s.outputs := rfl
@[simp] theorem State.countSkip_lookups : (s.countSkip).lookups = s.lookups := rfl
@[simp] theorem State.countSkip_probe : (s.countSkip).probe = s.probe := rfl

/-! ### consume -/

@[simp] theorem State.consume_phase : (s.consume).phase = s.phase := rfl
@[simp] theorem State.consume_remainingLength : (s.consume).remainingLength = s.remainingLength := rfl
@[simp] theorem State.consume_dstPresent : (s.consume).dstPresent = s.dstPresent := rfl
@[simp] theorem State.consume_dstAddr : (s.consume).dstAddr = s.dstAddr := rfl
@[simp] theorem State.consume_srcPresent : (s.consume).srcPresent = s.srcPresent := rfl
@[simp] theorem State.consume_srcAddr : (s.consume).srcAddr = s.srcAddr := rfl
@[simp] theorem State.consume_serviceId : (s.consume).serviceId = s.serviceId := rfl
@[simp] theorem State.consume_paramsLen : (s.consume).paramsLen = s.paramsLen := rfl
@[simp] theorem State.consume_params : (s.consume).params = s.params := rfl
@[simp] theorem State.consume_runningChecksum : (s.consume).runningChecksum = s.runningChecksum := rfl
@[simp] theorem State.consume_startTime : (s.consume).startTime = s.startTime := rfl
@[simp] theorem State.consume_endTime : (s.consume).endTime = s.evEnd := rfl
@[simp] theorem State.consume_skipRemaining : (s.consume).skipRemaining = s.skipRemaining := rfl
@[simp] theorem State.consume_input : (s.consume).input = s.input := rfl
@[simp] theorem State.consume_evStart : (s.consume).evStart = s.evStart := rfl
@[simp] theorem State.consume_evEnd : (s.consume).evEnd = s.evEnd := rfl
@[simp] theorem State.consume_outputs : (s.consume).outputs = s.outputs := rfl
@[simp] theorem State.consume_lookups : (s.consume).lookups = s.lookups := rfl
@[simp] theorem State.consume_probe : (s.consume).probe = s.probe := rfl

/-! ### resetContext -/

@[simp] theorem State.resetContext_phase : (s.resetContext).phase = .format := rfl
@[simp] theorem State.resetContext_remainingLength : (s.resetContext).remainingLength = s.remainingLength := rfl
@[simp] theorem State.resetContext_dstPresent : (s.resetContext).dstPresent = false := rfl
@[simp] theorem State.resetContext_dstAddr : (s.resetContext).dstAddr = s.dstAddr := rfl
@[simp] theorem State.resetContext_srcPresent : (s.resetContext).srcPresent = false := rfl
@[simp] theorem State.resetContext_srcAddr : (s.resetContext).srcAddr = s.srcAddr := rfl
@[simp] theorem State.resetContext_serviceId : (s.resetContext).serviceId = s.serviceId := rfl
@[simp] theorem State.resetContext_paramsLen : (s.resetContext).paramsLen = 0#8 := rfl
@[simp] theorem State.resetContext_params : (s.resetContext).params = s.params := rfl
@[simp] theorem State.resetContext_runningChecksum : (s.resetContext).runningChecksum = 0#8 := rfl
@[simp] theorem State.resetContext_startTime : (s.resetContext).startTime = s.startTime := rfl
@[simp] theorem State.resetContext_endTime : (s.resetContext).endTime = s.endTime := rfl
@[simp] theorem State.resetContext_skipRemaining : (s.resetContext).skipRemaining = s.skipRemaining := rfl
@[simp] theorem State.resetContext_input : (s.resetContext).input = s.input := rfl
@[simp] theorem State.resetContext_evStart : (s.resetContext).evStart = s.evStart := rfl
@[simp] theorem State.resetContext_evEnd : (s.resetContext).evEnd = s.evEnd := rfl
@[simp] theorem State.resetContext_outputs : (s.resetContext).outputs = s.outputs := rfl
@[simp] theorem State.resetContext_lookups : (s.resetContext).lookups = s.lookups := rfl
@[simp] theorem State.resetContext_probe : (s.resetContext).probe = s.probe := rfl

/-! ### beginFrame -/

@[simp] theorem State.beginFrame_phase : (s.beginFrame).phase = s.phase := rfl
@[simp] theorem State.beginFrame_remainingLength : (s.beginFrame).remainingLength = s.remainingLength := rfl
@[simp] theorem State.beginFrame_dstPresent : (s.beginFrame).dstPresent = false := rfl
@[simp] theorem State.beginFrame_dstAddr : (s.beginFrame).dstAddr = s.dstAddr := rfl
@[simp] theorem State.beginFrame_srcPresent : (s.beginFrame).srcPresent = false := rfl
@[simp] theorem State.beginFrame_srcAddr : (s.beginFrame).srcAddr = s.srcAddr := rfl
@[simp] theorem State.beginFrame_serviceId : (s.beginFrame).serviceId = s.serviceId := rfl
@[simp] theorem State.beginFrame_paramsLen : (s.beginFrame).paramsLen = 0#8 := rfl
@[simp] theorem State.beginFrame_params : (s.beginFrame).params = s.params := rfl
@[simp] theorem State.beginFrame_runningChecksum : (s.beginFrame).runningChecksum = 0#8 := rfl
@[simp] theorem State.beginFrame_startTime : (s.beginFrame).startTime = s.evStart := rfl
@[simp] theorem State.beginFrame_endTime : (s.beginFrame).endTime = s.endTime := rfl
@[simp] theorem State.beginFrame_skipRemaining : (s.beginFrame).skipRemaining = s.skipRemaining := rfl
@[simp] theorem State.beginFrame_input : (s.beginFrame).input = s.input := rfl
@[simp] theorem State.beginFrame_evStart : (s.beginFrame).evStart = s.evStart := rfl
@[simp] theorem State.beginFrame_evEnd : (s.beginFrame).evEnd = s.evEnd := rfl
@[simp] theorem State.beginFrame_outputs : (s.beginFrame).outputs = s.outputs := rfl
@[simp] theorem State.beginFrame_lookups : (s.beginFrame).lookups = s.lookups := rfl
@[simp] theorem State.beginFrame_probe : (s.beginFrame).probe = s.probe := rfl

/-! ### cksAdd -/

@[simp] theorem State.cksAdd_phase (b : Byte) : (s.cksAdd b).phase = s.phase := rfl
@[simp] theorem State.cksAdd_remainingLength (b : Byte) : (s.cksAdd b).remainingLength = s.remainingLength := rfl
@[simp] theorem State.cksAdd_dstPresent (b : Byte) : (s.cksAdd b).dstPresent = s.dstPresent := rfl
@[simp] theorem State.cksAdd_dstAddr (b : Byte) : (s.cksAdd b).dstAddr = s.dstAddr := rfl
@[simp] theorem State.cksAdd_srcPresent (b : Byte) : (s.cksAdd b).srcPresent = s.srcPresent := rfl
@[simp] theorem State.cksAdd_srcAddr (b : Byte) : (s.cksAdd b).srcAddr = s.srcAddr := rfl
@[simp] theorem State.cksAdd_serviceId (b : Byte) : (s.cksAdd b).serviceId = s.serviceId := rfl
@[simp] theorem State.cksAdd_paramsLen (b : Byte) : (s.cksAdd b).paramsLen = s.paramsLen := rfl
@[simp] theorem State.cksAdd_params (b : Byte) : (s.cksAdd b).params = s.params := rfl
@[simp] theorem State.cksAdd_runningChecksum (b : Byte) : (s.cksAdd b).runningChecksum = s.runningChecksum + b := rfl
@[simp] theorem State.cksAdd_startTime (b : Byte) : (s.cksAdd b).startTime = s.startTime := rfl
@[simp] theorem State.cksAdd_endTime (b : Byte) : (s.cksAdd b).endTime = s.endTime := rfl
@[simp] theorem State.cksAdd_skipRemaining (b : Byte) : (s.cksAdd b).skipRemaining = s.skipRemaining := rfl
@[simp] theorem State.cksAdd_input (b : Byte) : (s.cksAdd b).input = s.input := rfl
@[simp] theorem State.cksAdd_evStart (b : Byte) : (s.cksAdd b).evStart = s.evStart := rfl
@[simp] theorem State.cksAdd_evEnd (b : Byte) : (s.cksAdd b).evEnd = s.evEnd := rfl
@[simp] theorem State.cksAdd_outputs (b : Byte) : (s.cksAdd b).outputs = s.outputs := rfl
@[simp] theorem State.cksAdd_lookups (b : Byte) : (s.cksAdd b).lookups = s.lookups := rfl
@[simp] theorem State.cksAdd_probe (b : Byte) : (s.cksAdd b).probe = s.probe := rfl

/-! ### emit -/

@[simp] theorem State.emit_phase (o : Output) : (s.emit o).phase = s.phase := rfl
@[simp] theorem State.emit_remainingLength (o : Output) : (s.emit o).remainingLength = s.remainingLength := rfl
@[simp] theorem State.emit_dstPresent (o : Output) : (s.emit o).dstPresent = s.dstPresent := rfl
@[simp] theorem State.emit_dstAddr (o : Output) : (s.emit o).dstAddr = s.dstAddr := rfl
@[simp] theorem State.emit_srcPresent (o : Output) : (s.emit o).srcPresent = s.srcPresent := rfl
@[simp] theorem State.emit_srcAddr (o : Output) : (s.emit o).srcAddr = s.srcAddr := rfl
@[simp] theorem State.emit_serviceId (o : Output) : (s.emit o).serviceId = s.serviceId := rfl
@[simp] theorem State.emit_paramsLen (o : Output) : (s.emit o).paramsLen = s.paramsLen := rfl
@[simp] theorem State.emit_params (o : Output) : (s.emit o).params = s.params := rfl
@[simp] theorem State.emit_runningChecksum (o : Output) : (s.emit o).runningChecksum = s.runningChecksum := rfl
@[simp] theorem State.emit_startTime (o : Output) : (s.emit o).startTime = s.startTime := rfl
@[simp] theorem State.emit_endTime (o : Output) : (s.emit o).endTime = s.endTime := rfl
@[simp] theorem State.emit_skipRemaining (o : Output) : (s.emit o).skipRemaining = s.skipRemaining := rfl
@[simp] theorem State.emit_input (o : Output) : (s.emit o).input = s.input := rfl
@[simp] theorem State.emit_evStart (o : Output) : (s.emit o).evStart = s.evStart := rfl
@[simp] theorem State.emit_evEnd (o : Output) : (s.emit o).evEnd = s.evEnd := rfl
@[simp] theorem State.emit_outputs (o : Output) : (s.emit o).outputs = s.outputs ++ [o] := rfl
@[simp] theorem State.emit_lookups (o : Output) : (s.emit o).lookups = s.lookups := rfl
@[simp] theorem State.emit_probe (o : Output) : (s.emit o).probe = s.probe := rfl

/-! ### raise -/

@[simp] theorem State.raise_phase (k : ErrorKind) : (s.raise k).phase = .format := rfl
@[simp] theorem State.raise_remainingLength (k : ErrorKind) : (s.raise k).remainingLength = s.remainingLength := rfl
@[simp] theorem State.raise_dstPresent (k : ErrorKind) : (s.raise k).dstPresent = false := rfl
@[simp] theorem State.raise_dstAddr (k : ErrorKind) : (s.raise k).dstAddr = s.dstAddr := rfl
@[simp] theorem State.raise_srcPresent (k : ErrorKind) : (s.raise k).srcPresent = false := rfl
@[simp] theorem State.raise_srcAddr (k : ErrorKind) : (s.raise k).srcAddr = s.srcAddr := rfl
@[simp] theorem State.raise_serviceId (k : ErrorKind) : (s.raise k).serviceId = s.serviceId := rfl
@[simp] theorem State.raise_paramsLen (k : ErrorKind) : (s.raise k).paramsLen = 0#8 := rfl
@[simp] theorem State.raise_params (k : ErrorKind) : (s.raise k).params = s.params := rfl
@[simp] theorem State.raise_runningChecksum (k : ErrorKind) : (s.raise k).runningChecksum = 0#8 := rfl
@[simp] theorem State.raise_startTime (k : ErrorKind) : (s.raise k).startTime = s.startTime := rfl
@[simp] theorem State.raise_endTime (k : ErrorKind) : (s.raise k).endTime = s.endTime := rfl
@[simp] theorem State.raise_skipRemaining (k : ErrorKind) : (s.raise k).skipRemaining = s.skipRemaining := rfl
@[simp] theorem State.raise_input (k : ErrorKind) : (s.raise k).input = s.input := rfl
@[simp] theorem State.raise_evStart (k : ErrorKind) : (s.raise k).evStart = s.evStart := rfl
@[simp] theorem State.raise_evEnd (k : ErrorKind) : (s.raise k).evEnd = s.evEnd := rfl
@[simp] theorem State.raise_outputs (k : ErrorKind) : (s.raise k).outputs = s.outputs ++ [.error ⟨k, s.startTime, s.evEnd⟩] := rfl
@[simp] theorem State.raise_lookups (k : ErrorKind) : (s.raise k).lookups = s.lookups := rfl
@[simp] theorem State.raise_probe (k : ErrorKind) : (s.raise k).probe = s.probe := rfl

/-! ### logLookup -/

@[simp] theorem State.logLookup_phase (b : Byte) (n : Name) : (s.logLookup b n).phase = s.phase := rfl
@[simp] theorem State.logLookup_remainingLength (b : Byte) (n : Name) : (s.logLookup b n).remainingLength = s.remainingLength := rfl
@[simp] theorem State.logLookup_dstPresent (b : Byte) (n : Name) : (s.logLookup b n).dstPresent = s.dstPresent := rfl
@[simp] theorem State.logLookup_dstAddr (b : Byte) (n : Name) : (s.logLookup b n).dstAddr = s.dstAddr := rfl
@[simp] theorem State.logLookup_srcPresent (b : Byte) (n : Name) : (s.logLookup b n).srcPresent = s.srcPresent := rfl
@[simp] theorem State.logLookup_srcAddr (b : Byte) (n : Name) : (s.logLookup b n).srcAddr = s.srcAddr := rfl
@[simp] theorem State.logLookup_serviceId (b : Byte) (n : Name) : (s.logLookup b n).serviceId = s.serviceId := rfl
@[simp] theorem State.logLookup_paramsLen (b : Byte) (n : Name) : (s.logLookup b n).paramsLen = s.paramsLen := rfl
@[simp] theorem State.logLookup_params (b : Byte) (n : Name) : (s.logLookup b n).params = s.params := rfl
@[simp] theorem State.logLookup_runningChecksum (b : Byte) (n : Name) : (s.logLookup b n).runningChecksum = s.runningChecksum := rfl
@[simp] theorem State.logLookup_startTime (b : Byte) (n : Name) : (s.logLookup b n).startTime = s.startTime := rfl
@[simp] theorem State.logLookup_endTime (b : Byte) (n : Name) : (s.logLookup b n).endTime = s.endTime := rfl
@[simp] theorem State.logLookup_skipRemaining (b : Byte) (n : Name) : (s.logLookup b n).skipRemaining = s.skipRemaining := rfl
@[simp] theorem State.logLookup_input (b : Byte) (n : Name) : (s.logLookup b n).input = s.input := rfl
@[simp] theorem State.logLookup_evStart (b : Byte) (n : Name) : (s.logLookup b n).evStart = s.evStart := rfl
@[simp] theorem State.logLookup_evEnd (b : Byte) (n : Name) : (s.logLookup b n).evEnd = s.evEnd := rfl
@[simp] theorem State.logLookup_outputs (b : Byte) (n : Name) : (s.logLookup b n).outputs = s.outputs := rfl
@[simp] theorem State.logLookup_lookups (b : Byte) (n : Name) : (s.logLookup b n).lookups = s.lookups ++ [⟨b, n⟩] := rfl
@[simp] theorem State.logLookup_probe (b : Byte) (n : Name) : (s.logLookup b n).probe = s.probe := rfl

/-! ### present -/

@[simp] theorem State.present_phase (e : Event) (rest : List Event) : (s.present e rest).phase = s.phase := rfl
@[simp] theorem State.present_remainingLength (e : Event) (rest : List Event) : (s.present e rest).remainingLength = s.remainingLength := rfl
@[simp] theorem State.present_dstPresent (e : Event) (rest : List Event) : (s.present e rest).dstPresent = s.dstPresent := rfl
@[simp] theorem State.present_dstAddr (e : Event) (rest : List Event) : (s.present e rest).dstAddr = s.dstAddr := rfl
@[simp] theorem State.present_srcPresent (e : Event) (rest : List Event) : (s.present e rest).srcPresent = s.srcPresent := rfl
@[simp] theorem State.present_srcAddr (e : Event) (rest : List Event) : (s.present e rest).srcAddr = s.srcAddr := rfl
@[simp] theorem State.present_serviceId (e : Event) (rest : List Event) : (s.present e rest).serviceId = s.serviceId := rfl
@[simp] theorem State.present_paramsLen (e : Event) (rest : List Event) : (s.present e rest).paramsLen = s.paramsLen := rfl
@[simp] theorem State.present_params (e : Event) (rest : List Event) : (s.present e rest).params = s.params := rfl
@[simp] theorem State.present_runningChecksum (e : Event) (rest : List Event) : (s.present e rest).runningChecksum = s.runningChecksum := rfl
@[simp] theorem State.present_startTime (e : Event) (rest : List Event) : (s.present e rest).startTime = s.startTime := rfl
@[simp] theorem State.present_endTime (e : Event) (rest : List Event) : (s.present e rest).endTime = s.endTime := rfl
@[simp] theorem State.present_skipRemaining (e : Event) (rest : List Event) : (s.present e rest).skipRemaining = s.skipRemaining := rfl
@[simp] theorem State.present_input (e : Event) (rest : List Event) : (s.present e rest).input = rest := rfl
@[simp] theorem State.present_evStart (e : Event) (rest : List Event) : (s.present e rest).evStart = e.startTime := rfl
@[simp] theorem State.present_evEnd (e : Event) (rest : List Event) : (s.present e rest).evEnd = e.endTime := rfl
@[simp] theorem State.present_outputs (e : Event) (rest : List Event) : (s.present e rest).outputs = s.outputs := rfl
@[simp] theorem State.present_lookups (e : Event) (rest : List Event) : (s.present e rest).lookups = s.lookups := rfl
@[simp] theorem State.present_probe (e : Event) (rest : List Event) : (s.present e rest).probe = s.probe := rfl

end Sys2Proof.Machine
end

