-- ==== Sys2Proof/Laws/Ops.lean ====
section
/-! SUPPORT. One lemma for each shared operation that says all it can do: the buffer's reads and writes, its canonical form,
the append, the name function and the fetch of an operation. -/

namespace Sys2Proof.Machine

/-! ### The parameter buffer -/

theorem Memory.read_write_same (m : Memory) (a : Nat) (v : Byte) : (m.write a v).read a = some v := by
  induction m with
  | nil => simp [Memory.write, Memory.read]
  | cons c m ih =>
    unfold Memory.write
    split
    · simp [Memory.read]
    · split
      · simp [Memory.read]
      · rename_i h
        simp [Memory.read, Ne.symm h, ih]

theorem Memory.read_write_other (m : Memory) {a k : Nat} (v : Byte) (h : k ≠ a) : (m.write a v).read k = m.read k := by
  induction m with
  | nil => simp [Memory.write, Memory.read, Ne.symm h]
  | cons c m ih =>
    unfold Memory.write
    split
    · simp [Memory.read, Ne.symm h]
    · split
      · rename_i _ hc
        simp [Memory.read, Ne.symm h, ← hc]
      · simp [Memory.read, ih]

/-- A write says at every slot what it reads as. -/
theorem Memory.read_write (m : Memory) (a k : Nat) (v : Byte) :
    (m.write a v).read k = if k = a then some v else m.read k := by
  split
  · rename_i h; subst h; exact Memory.read_write_same m k v
  · rename_i h; exact Memory.read_write_other m v h

/-- The first slot of a nonempty buffer after a write: the written one, or the old first one. -/
theorem Memory.write_head (c : Host.Cell) (m : Memory) (a : Nat) (v : Byte) :
    ∃ d n, Memory.write (c :: m) a v = d :: n ∧ (d.1 = a ∨ d.1 = c.1) := by
  unfold Memory.write
  split
  · exact ⟨_, _, rfl, .inl rfl⟩
  · split
    · exact ⟨_, _, rfl, .inl rfl⟩
    · exact ⟨_, _, rfl, .inr rfl⟩

theorem Memory.wf_tail {c : Host.Cell} {m : Memory} (h : Memory.wf (c :: m) = true) : Memory.wf m = true := by
  cases m with
  | nil => rfl
  | cons d m => simp [Memory.wf] at h; exact h.2

theorem Memory.wf_bound {c : Host.Cell} {m : Memory} (h : Memory.wf (c :: m) = true) : c.1 < paramMax := by
  induction m generalizing c with
  | nil => simpa [Memory.wf] using h
  | cons d m ih =>
    simp [Memory.wf] at h
    exact Nat.lt_trans h.1 (ih h.2)

/-- A write to one of the 254 slots keeps the canonical form. -/
theorem Memory.write_wf (m : Memory) {a : Nat} (v : Byte) (h : Memory.wf m = true) (ha : a < paramMax) :
    Memory.wf (m.write a v) = true := by
  induction m with
  | nil => simpa [Memory.write, Memory.wf] using ha
  | cons c m ih =>
    unfold Memory.write
    split
    · rename_i hlt; simpa [Memory.wf, hlt] using h
    · split
      · rename_i _ heq
        cases m with
        | nil => simpa [Memory.wf] using ha
        | cons d m => simp [Memory.wf] at h ⊢; exact ⟨heq ▸ h.1, h.2⟩
      · have ht := ih (Memory.wf_tail h)
        have hca : c.1 < a := by omega
        cases m with
        | nil => simpa [Memory.write, Memory.wf, hca] using ha
        | cons d m =>
          obtain ⟨e, n, he, hor⟩ := Memory.write_head d m a v
          rw [he] at ht ⊢
          simp [Memory.wf] at h ht ⊢
          refine ⟨?_, ht⟩
          rcases hor with h1 | h1
          · omega
          · rw [h1]; exact h.1

/-- The copy-out succeeds where every slot holds a byte. -/
theorem Memory.readSeq_isSome (m : Memory) (n : Nat) (h : ∀ a, a < n → (m.read a).isSome = true) :
    ∃ bs, m.readSeq n = some bs := by
  induction n with
  | zero => exact ⟨[], rfl⟩
  | succ n ih =>
    obtain ⟨bs, hbs⟩ := ih fun a ha => h a (by omega)
    obtain ⟨b, hb⟩ := Option.isSome_iff_exists.mp (h n (by omega))
    exact ⟨bs ++ [b], by simp [Memory.readSeq, hbs, hb]⟩

/-- The copy-out says the slots in order: its length, and the byte at each place. -/
theorem Memory.readSeq_spec {m : Memory} {n : Nat} {bs : List Byte} (h : m.readSeq n = some bs) :
    bs.length = n ∧ ∀ a, a < n → m.read a = bs[a]? := by
  induction n generalizing bs with
  | zero => simp [Memory.readSeq] at h; simp [← h]
  | succ n ih =>
    unfold Memory.readSeq at h
    split at h
    · rename_i cs c hcs hc
      obtain ⟨hl, hr⟩ := ih hcs
      cases h
      refine ⟨by simp [hl], fun a ha => ?_⟩
      by_cases hn : a = n
      · subst hn; rw [hc, ← hl]; simp
      · have : a < n := by omega
        rw [hr a this, List.getElem?_append_left (by omega)]
    · cases h

/-- The copy-out depends on the slots it reads, and on nothing else. -/
theorem Memory.readSeq_congr {m k : Memory} {n : Nat} (h : ∀ a, a < n → m.read a = k.read a) :
    m.readSeq n = k.readSeq n := by
  induction n with
  | zero => rfl
  | succ n ih => simp [Memory.readSeq, ih fun a ha => h a (by omega), h n (by omega)]

/-! ### The append -/

/-- What an append can do: below slot 254 it stores the byte and counts it, and nothing else changes. -/
theorem State.appendParam_cases {b : Byte} {s : State} :
    (s.paramsLen.toNat < paramMax ∧ s.appendParam b =
      .ok { s with params := s.params.write s.paramsLen.toNat b, paramsLen := s.paramsLen + 1#8 }) ∨
    (paramMax ≤ s.paramsLen.toNat ∧ s.appendParam b = .error .paramsOutOfRange) := by
  unfold State.appendParam
  split
  · exact .inl ⟨‹_›, rfl⟩
  · exact .inr ⟨by omega, rfl⟩

/-! ### The name function -/

@[simp] theorem sidTable_testerPresent : sidTable 0x3E#8 = some .testerPresent := rfl

@[simp] theorem sidNameIn_negative (table : Byte → Option Name) : sidNameIn table 0x7F#8 = .negativeResponse := rfl

theorem sidNameIn_other (table : Byte → Option Name) {b : Byte} (h : b ≠ 0x7F#8) :
    sidNameIn table b = (table (b &&& 0xBF#8)).getD .unknown := by
  simp [sidNameIn, h, tableName, sidKey]

/-! ### The fetch -/

theorem State.fetch_probe {s : State} {p : Probe} (h : s.probe = some p) :
    s.fetch = some (p.decode, { s with probe := none }) := by
  simp [State.fetch, h]

theorem State.fetch_event {s : State} {e : Event} {rest : List Event} (hp : s.probe = none) (hi : s.input = e :: rest) :
    s.fetch = some (decodeDispatch (dispatchWord s.skipActive s.phase e), s.present e rest) := by
  simp [State.fetch, hp, hi]

theorem State.fetch_idle {s : State} (hp : s.probe = none) (hi : s.input = []) : s.fetch = none := by
  simp [State.fetch, hp, hi]

/-! ### The phase codes -/

@[simp] theorem Phase.ofCode_code (p : Phase) : Phase.ofCode p.code = some p := by cases p <;> rfl

theorem Phase.code_ne_seven (p : Phase) : p.code ≠ 7#3 := by cases p <;> decide

end Sys2Proof.Machine
end

