-- ==== Sys2Proof/Laws/Words.lean ====
section
/-! SUPPORT. The bits of a dispatch word, and a row's test of a word read on its bits (30_encoding.md R85, R86). -/

namespace Sys2Proof

/-- Every bit of a dispatch word, by the field it lies in (R85). -/
theorem getLsbD_mkDispatch (skip err : BitVec 1) (phase : BitVec 3) (b : Byte) (k : Nat) :
    (mkDispatch skip err phase b).getLsbD k =
      if k < 8 then b.getLsbD k
      else if k < 11 then phase.getLsbD (k - 8)
      else if k < 12 then err.getLsbD (k - 11)
      else skip.getLsbD (k - 12) := by
  simp only [mkDispatch, BitVec.getLsbD_append, Nat.sub_sub]
  by_cases h8 : k < 8 <;> by_cases h11 : k < 11 <;> by_cases h12 : k < 12 <;>
    simp [h8, show (k - 8 < 3) ↔ k < 11 by omega, show (k - 11 < 1) ↔ k < 12 by omega, h11, h12]

/-- A row covers a word's value when its mask and pattern say so on the word's bits. -/
theorem OpRow.covers_of_bits {n : Nat} (w : BitVec n) (r : OpRow) (hm : r.mask < 2 ^ n) (hp : r.pattern < 2 ^ n)
    (h : w &&& BitVec.ofNat n r.mask = BitVec.ofNat n r.pattern) : r.covers w.toNat = true := by
  have := congrArg BitVec.toNat h
  rw [BitVec.toNat_and, BitVec.toNat_ofNat, BitVec.toNat_ofNat, Nat.mod_eq_of_lt hm, Nat.mod_eq_of_lt hp] at this
  simp [OpRow.covers, this]

/-- A row covers no word whose bits differ from its pattern under its mask. -/
theorem OpRow.not_covers_of_bits {n : Nat} (w : BitVec n) (r : OpRow) (hm : r.mask < 2 ^ n)
    (h : w &&& BitVec.ofNat n r.mask ≠ BitVec.ofNat n r.pattern) : r.covers w.toNat = false := by
  simp only [OpRow.covers, beq_eq_false_iff_ne]
  intro hc
  refine h (BitVec.eq_of_toNat_eq ?_)
  rw [BitVec.toNat_and, BitVec.toNat_ofNat, BitVec.toNat_ofNat, Nat.mod_eq_of_lt hm, hc, Nat.mod_eq_of_lt]
  exact hc ▸ Nat.lt_of_le_of_lt Nat.and_le_right hm

/-- The bits of a dispatch word that a row with mask 0x1F00 tests: the skip bit, the flag and the phase. -/
theorem mkDispatch_and_phase_mask (skip err : BitVec 1) (phase : BitVec 3) (b : Byte) :
    mkDispatch skip err phase b &&& 0x1F00#13 = mkDispatch skip err phase 0#8 := by
  apply BitVec.eq_of_getLsbD_eq
  intro k hk
  simp only [BitVec.getLsbD_and, getLsbD_mkDispatch]
  interval_cases k <;> simp

end Sys2Proof
end

