-- ==== Sys2Proof/Laws/PerInstr.lean ====
section
/-! SUPPORT. The per-operation law EncodesRow: the word of an operation belongs to the operation's row of opcode_table.json
(30_encoding.md R86), and that of a well-formed SIDNAME.TBL to neither SID8 row of higher priority. -/

namespace Sys2Proof.Laws.EncodesRow

/-- The operation's word lies in its row of the opcode table, and in no row of higher priority. -/
def Statement (i : Instr) : Prop :=
  i.WellFormed →
    i.row.covers (encodeWord i).toNat = true ∧
      (i.row.mnemonic = "SIDNAME.TBL" →
        Instr.sidnameNeg.row.covers (encodeWord i).toNat = false ∧
          (Instr.sidnameTp 0#1).row.covers (encodeWord i).toNat = false)

/-- A dispatch row, but for the priority clause, which is about SID8 rows only. -/
theorem of_dispatch {i : Instr} {w : DispatchWord} (he : encodeWord i = .dispatch w) (hn : i.row.mnemonic ≠ "SIDNAME.TBL")
    (hm : i.row.mask < 2 ^ 13) (hp : i.row.pattern < 2 ^ 13)
    (h : w &&& BitVec.ofNat 13 i.row.mask = BitVec.ofNat 13 i.row.pattern) : Statement i := by
  intro _
  rw [he]
  exact ⟨OpRow.covers_of_bits w i.row hm hp h, fun hc => absurd hc hn⟩

theorem skip (err : Bool) (phase : BitVec 3) (byte : Byte) : Statement (.skip err phase byte) := by
  refine of_dispatch rfl (by simp [Instr.row]) (by simp [Instr.row]) (by simp [Instr.row]) ?_
  apply BitVec.eq_of_getLsbD_eq
  intro k hk
  simp only [Instr.row, BitVec.getLsbD_and, getLsbD_mkDispatch]
  interval_cases k <;> simp

theorem buserr (phase : BitVec 3) (byte : Byte) : Statement (.buserr phase byte) := by
  refine of_dispatch rfl (by simp [Instr.row]) (by simp [Instr.row]) (by simp [Instr.row]) ?_
  apply BitVec.eq_of_getLsbD_eq
  intro k hk
  simp only [Instr.row, BitVec.getLsbD_and, getLsbD_mkDispatch]
  interval_cases k <;> simp

theorem fmtCompact (len6 : BitVec 6) : Statement (.fmtCompact len6) := by
  refine of_dispatch rfl (by simp [Instr.row]) (by simp [Instr.row]) (by simp [Instr.row]) ?_
  apply BitVec.eq_of_getLsbD_eq
  intro k hk
  simp only [Instr.row, BitVec.getLsbD_and, getLsbD_mkDispatch, BitVec.getLsbD_append]
  interval_cases k <;> simp

theorem fmtUnsup (len6 : BitVec 6) : Statement (.fmtUnsup len6) := by
  refine of_dispatch rfl (by simp [Instr.row]) (by simp [Instr.row]) (by simp [Instr.row]) ?_
  apply BitVec.eq_of_getLsbD_eq
  intro k hk
  simp only [Instr.row, BitVec.getLsbD_and, getLsbD_mkDispatch, BitVec.getLsbD_append]
  interval_cases k <;> simp

theorem fmtAddr (mode : BitVec 1) (len6 : BitVec 6) : Statement (.fmtAddr mode len6) := by
  refine of_dispatch rfl (by simp [Instr.row]) (by simp [Instr.row]) (by simp [Instr.row]) ?_
  apply BitVec.eq_of_getLsbD_eq
  intro k hk
  simp only [Instr.row, BitVec.getLsbD_and, getLsbD_mkDispatch, BitVec.getLsbD_append]
  interval_cases k <;> simp

theorem dst (byte : Byte) : Statement (.dst byte) :=
  of_dispatch rfl (by simp [Instr.row]) (by simp [Instr.row]) (by simp [Instr.row])
    ((mkDispatch_and_phase_mask 0#1 0#1 1#3 byte).trans (show _ = 0x0100#13 by decide))

theorem src (byte : Byte) : Statement (.src byte) :=
  of_dispatch rfl (by simp [Instr.row]) (by simp [Instr.row]) (by simp [Instr.row])
    ((mkDispatch_and_phase_mask 0#1 0#1 2#3 byte).trans (show _ = 0x0200#13 by decide))

theorem len (byte : Byte) : Statement (.len byte) :=
  of_dispatch rfl (by simp [Instr.row]) (by simp [Instr.row]) (by simp [Instr.row])
    ((mkDispatch_and_phase_mask 0#1 0#1 3#3 byte).trans (show _ = 0x0300#13 by decide))

theorem sid (byte : Byte) : Statement (.sid byte) :=
  of_dispatch rfl (by simp [Instr.row]) (by simp [Instr.row]) (by simp [Instr.row])
    ((mkDispatch_and_phase_mask 0#1 0#1 4#3 byte).trans (show _ = 0x0400#13 by decide))

theorem param (byte : Byte) : Statement (.param byte) :=
  of_dispatch rfl (by simp [Instr.row]) (by simp [Instr.row]) (by simp [Instr.row])
    ((mkDispatch_and_phase_mask 0#1 0#1 5#3 byte).trans (show _ = 0x0500#13 by decide))

theorem cks (byte : Byte) : Statement (.cks byte) :=
  of_dispatch rfl (by simp [Instr.row]) (by simp [Instr.row]) (by simp [Instr.row])
    ((mkDispatch_and_phase_mask 0#1 0#1 6#3 byte).trans (show _ = 0x0600#13 by decide))

theorem illstate (byte : Byte) : Statement (.illstate byte) :=
  of_dispatch rfl (by simp [Instr.row]) (by simp [Instr.row]) (by simp [Instr.row])
    ((mkDispatch_and_phase_mask 0#1 0#1 7#3 byte).trans (show _ = 0x0700#13 by decide))

theorem sidnameNeg : Statement .sidnameNeg := fun _ => ⟨by decide, by simp [Instr.row]⟩

theorem sidnameTp (responseBit : BitVec 1) : Statement (.sidnameTp responseBit) := by
  refine fun _ => ⟨?_, by simp [Instr.row]⟩
  have h : responseBit = 0#1 ∨ responseBit = 1#1 := by
    have := responseBit.isLt
    rcases (by omega : responseBit.toNat = 0 ∨ responseBit.toNat = 1) with h | h
    · exact .inl (BitVec.eq_of_toNat_eq h)
    · exact .inr (BitVec.eq_of_toNat_eq h)
  rcases h with rfl | rfl <;> decide

theorem sidnameTbl (sid : Byte) : Statement (.sidnameTbl sid) := by
  intro hw
  have hw : sid ≠ 0x7F#8 ∧ sid &&& 0xBF#8 ≠ 0x3E#8 := by simpa [Instr.WellFormed, Instr.wellFormed] using hw
  refine ⟨by simp [OpRow.covers, Instr.row], fun _ => ⟨?_, ?_⟩⟩
  · refine OpRow.not_covers_of_bits sid _ (by decide) ?_
    rw [show BitVec.ofNat 8 Instr.sidnameNeg.row.mask = BitVec.allOnes 8 from rfl, BitVec.and_allOnes]
    exact hw.1
  · exact OpRow.not_covers_of_bits sid _ (by decide) hw.2

end Sys2Proof.Laws.EncodesRow
end

