-- ==== Sys2Proof/Tests/Slice0.lean ====
section
/-! SUPPORT. The model's own tests. Expected words come from 30_encoding.md R85 and R86, expected results from the rows of
95_test_vectors.md (S1 to S4, V1 to V32, P3) and from the code tables R84 and R161; then, for every statement that has
hypotheses, a concrete state and operands that meet all of them. -/

namespace Sys2Proof.Tests

open Sys2Proof.Machine

/-! ### Well-formed terms: each check refuses a term -/

theorem test_wellFormed_refuses_negative_response_as_table : ¬ Instr.WellFormed (.sidnameTbl 0x7F#8) := by decide
theorem test_wellFormed_refuses_tester_present_as_table :
    ¬ Instr.WellFormed (.sidnameTbl 0x3E#8) ∧ ¬ Instr.WellFormed (.sidnameTbl 0x7E#8) := by decide
theorem test_wellFormed_accepts_other_bytes :
    Instr.WellFormed (.sidnameTbl 0xBE#8) ∧ Instr.WellFormed (.sidnameTbl 0x3F#8) ∧ Instr.WellFormed .sidnameNeg := by decide

/-! ### Decoding: the words, bit by bit, from the spec's encoding

`skip_active . err . phase . byte` is bit 12, bit 11, bits 10 to 8, bits 7 to 0 (R85). -/

/-- V13, event 1: `!BB` while events are skipped. -/
theorem test_decode_skip : decodeDispatch 0b1_1_000_10111011#13 = .skip true 0#3 0xBB#8 := by decide
/-- P3, event 5: `!AA` in phase SRC_ADDR. -/
theorem test_decode_buserr : decodeDispatch 0b0_1_010_10101010#13 = .buserr 2#3 0xAA#8 := by decide
/-- V21: format byte `3F`. -/
theorem test_decode_fmtCompact : decodeDispatch 0b0_0_000_00111111#13 = .fmtCompact 63#6 := by decide
/-- S2: format byte `45`. -/
theorem test_decode_fmtUnsup : decodeDispatch 0b0_0_000_01000101#13 = .fmtUnsup 5#6 := by decide
/-- V23: format byte `C1`, and S4: `81`. -/
theorem test_decode_fmtAddr :
    decodeDispatch 0b0_0_000_11000001#13 = .fmtAddr 1#1 1#6 ∧ decodeDispatch 0b0_0_000_10000001#13 = .fmtAddr 0#1 1#6 := by
  decide
theorem test_decode_dst : decodeDispatch 0b0_0_001_00010000#13 = .dst 0x10#8 := by decide
theorem test_decode_src : decodeDispatch 0b0_0_010_11110001#13 = .src 0xF1#8 := by decide
theorem test_decode_len : decodeDispatch 0b0_0_011_00000011#13 = .len 3#8 := by decide
theorem test_decode_sid : decodeDispatch 0b0_0_100_01111111#13 = .sid 0x7F#8 := by decide
theorem test_decode_param : decodeDispatch 0b0_0_101_00000010#13 = .param 2#8 := by decide
theorem test_decode_cks : decodeDispatch 0b0_0_110_01000000#13 = .cks 0x40#8 := by decide
theorem test_decode_illstate : decodeDispatch 0b0_0_111_00000000#13 = .illstate 0#8 := by decide
theorem test_decode_sidnameNeg : decodeSid8 0b01111111#8 = .sidnameNeg := by decide
theorem test_decode_sidnameTp :
    decodeSid8 0b00111110#8 = .sidnameTp 0#1 ∧ decodeSid8 0b01111110#8 = .sidnameTp 1#1 := by decide
/-- V4, V6: neither 3F nor BE is one of the special rows. -/
theorem test_decode_sidnameTbl :
    decodeSid8 0b10111110#8 = .sidnameTbl 0xBE#8 ∧ decodeSid8 0b00111111#8 = .sidnameTbl 0x3F#8 := by decide

/-- A word with its least significant byte first; the three highest bits must be clear. -/
theorem test_decode_bytes :
    decode [0x40#8, 0x06#8] = .ok (.cks 0x40#8) ∧ decode [0x00#8, 0x20#8] = .error .reservedBits ∧
    decode [] = .error .empty ∧ decode [0#8, 0#8, 0#8] = .error .tooLong := ⟨rfl, rfl, rfl, rfl⟩

/-! ### The table words: decoded, and run as the next step -/

/-- The rows a table word can name, as (bits, word): one word for each row but ILLSTATE. -/
def tableWords : List (Nat × Nat) :=
  [(16, 0x1800), (16, 0x0800), (16, 0x0000), (16, 0x0040), (16, 0x0080), (16, 0x0100), (16, 0x0200)] ++
  [(16, 0x0300), (16, 0x0400), (16, 0x0500), (16, 0x0600), (8, 0x7F), (8, 0x3E), (8, 0x00)]

/-- The outcome is a next state for which `p` holds. -/
def answers (o : Host.Outcome State Fault Refusal) (p : State → Bool) : Bool :=
  match o with
  | .next t => p t
  | .fault _ => false
  | .refused _ => false

theorem test_table_words_decode :
    tableWords.map (fun w => decodeTableWord w.1 w.2) =
      [some (.skip true 0#3 0#8), some (.buserr 0#3 0#8), some (.fmtCompact 0#6), some (.fmtUnsup 0#6),
       some (.fmtAddr 0#1 0#6), some (.dst 0#8), some (.src 0#8), some (.len 0#8), some (.sid 0#8), some (.param 0#8),
       some (.cks 0#8), some .sidnameNeg, some (.sidnameTp 0#1), some (.sidnameTbl 0#8)] := by decide
theorem test_table_word_illstate : decodeTableWord 16 0x0700 = some (.illstate 0#8) := by decide
theorem test_table_word_rejected : decodeTableWord 16 0x2000 = none ∧ decodeTableWord 8 0x100 = none := by decide

/-- Each placed word's operation completes in one step after construction. -/
theorem test_placed_words_complete :
    tableWords.all (fun w => answers (step ((State.init 0).withFetchWord w.1 w.2)) (fun _ => true)) = true := by decide
theorem test_placed_illstate_stops :
    step ((State.init 0).withFetchWord 16 0x0700) = .refused .internalInconsistency := rfl

/-! ### The code tables -/

/-- R21. -/
theorem test_phase_codes :
    [Phase.format, .dstAddr, .srcAddr, .length, .serviceId, .params, .checksum].map Phase.code =
      [0#3, 1#3, 2#3, 3#3, 4#3, 5#3, 6#3] := by decide
/-- R161 and R84. -/
theorem test_kind_codes :
    [ErrorKind.unsupportedFormat, .invalidLength, .invalidChecksum].map ErrorKind.code = [0#2, 1#2, 2#2] ∧
    Output.code .nothing = 0#2 ∧ Output.code (.error ⟨.invalidLength, .nth 0, .nth 0⟩) = 2#2 := by decide

/-! ### One step of each operation

Event `i` starts at `10 * i` and ends at `10 * i + 8`, as in 95_test_vectors.md. -/

/-- The event at position `i` with byte `b`. -/
def ev (i : Nat) (b : Byte) : Event := ⟨b, Time.nth (10 * i), Time.nth (10 * i + 8), false⟩

/-- The bus-error event at position `i` with byte `b`. -/
def flagged (i : Nat) (b : Byte) : Event := { ev i b with err := true }

/-- A decoder that began a frame at time `10 * i`, in the given phase, with the given accumulator and length. -/
def mid (i : Nat) (p : Phase) (cks len : Byte) : State :=
  { State.init 0 with phase := p, runningChecksum := cks, remainingLength := len, startTime := Time.nth (10 * i) }

/-- The state with one event to feed. -/
def fed (e : Event) (s : State) : State := { s with input := [e] }

/-- The state with both addresses stored. -/
def addressed (dst src : Byte) (s : State) : State :=
  { s with dstAddr := dst, dstPresent := true, srcAddr := src, srcPresent := true }

/-- The state with these bytes in the first slots. -/
def holding (bs : List Byte) (s : State) : State :=
  { s with params := (List.range bs.length).zip bs, paramsLen := BitVec.ofNat 8 bs.length }

/-- One row of a trace: the step answers, and its output, then phase, accumulator, length, fill count and presence flags
are these. -/
def traceRow (s : State) (out : Output) (p : Phase) (cks len np : Byte) (dp sp : Bool) : Prop :=
  ∃ t, step s = .next t ∧ t.outputs = [out] ∧ t.phase = p ∧ t.runningChecksum = cks ∧ t.remainingLength = len ∧
    t.paramsLen = np ∧ t.dstPresent = dp ∧ t.srcPresent = sp ∧ t.input = []

/-- V10, event 0: the format byte 45 is discarded unseen. -/
theorem test_skip_discards :
    step (fed (ev 0 0x45#8) (State.init 2)) = .next { State.init 1 with evEnd := .nth 8, outputs := [.nothing] } := rfl
/-- V13, event 1: a flagged event counts. -/
theorem test_skip_counts_flagged : answers (step (fed (flagged 1 0xBB#8) (State.init 1)))
    (fun t => t.skipRemaining == 0 && t.outputs == [.nothing]) = true := by decide
/-- V12, event 4: the flagged byte equals the accumulator and is not compared. -/
theorem test_buserr_in_checksum :
    traceRow (fed (flagged 4 0x40#8) (holding [0#8] (mid 1 .checksum 0x40#8 2#8))) .nothing .checksum 0x40#8 2#8 1#8
      false false :=
  ⟨_, rfl, rfl, rfl, rfl, rfl, rfl, rfl, rfl, rfl⟩
/-- V12, event 0: no UnsupportedFormat. -/
theorem test_buserr_in_format :
    traceRow (fed (flagged 0 0x45#8) (State.init 0)) .nothing .format 0#8 0#8 0#8 false false :=
  ⟨_, rfl, rfl, rfl, rfl, rfl, rfl, rfl, rfl, rfl⟩
/-- S1, event 0. -/
theorem test_fmtCompact_inline :
    traceRow (fed (ev 0 2#8) (State.init 0)) .nothing .serviceId 2#8 2#8 0#8 false false :=
  ⟨_, rfl, rfl, rfl, rfl, rfl, rfl, rfl, rfl, rfl⟩
/-- V16, event 0: no inline length. -/
theorem test_fmtCompact_explicit :
    traceRow (fed (ev 0 0#8) (State.init 0)) .nothing .length 0#8 0#8 0#8 false false :=
  ⟨_, rfl, rfl, rfl, rfl, rfl, rfl, rfl, rfl, rfl⟩
/-- V20, event 1: `40` errors like `45`, with its own two times, and leaves the length. -/
theorem test_fmtUnsup :
    traceRow (fed (ev 1 0x40#8) (mid 0 .format 0#8 7#8)) (.error ⟨.unsupportedFormat, .nth 10, .nth 18⟩) .format 0#8 7#8 0#8
      false false :=
  ⟨_, rfl, rfl, rfl, rfl, rfl, rfl, rfl, rfl, rfl⟩
/-- S4, event 0. -/
theorem test_fmtAddr_inline :
    traceRow (fed (ev 0 0x81#8) (State.init 0)) .nothing .dstAddr 0x81#8 1#8 0#8 false false :=
  ⟨_, rfl, rfl, rfl, rfl, rfl, rfl, rfl, rfl, rfl⟩
/-- V19, event 0: mode `11`, no inline length. -/
theorem test_fmtAddr_explicit :
    traceRow (fed (ev 0 0xC0#8) (State.init 0)) .nothing .dstAddr 0xC0#8 0#8 0#8 false false :=
  ⟨_, rfl, rfl, rfl, rfl, rfl, rfl, rfl, rfl, rfl⟩
/-- S4, event 1. -/
theorem test_dst :
    traceRow (fed (ev 1 0x10#8) (mid 0 .dstAddr 0x81#8 1#8)) .nothing .srcAddr 0x91#8 1#8 0#8 true false :=
  ⟨_, rfl, rfl, rfl, rfl, rfl, rfl, rfl, rfl, rfl⟩
/-- S4, event 2: the sum wraps; the length is known. -/
theorem test_src_inline :
    traceRow (fed (ev 2 0xF1#8) { mid 0 .srcAddr 0x91#8 1#8 with dstPresent := true }) .nothing .serviceId 0x82#8 1#8 0#8
      true true :=
  ⟨_, rfl, rfl, rfl, rfl, rfl, rfl, rfl, rfl, rfl⟩
/-- V18, event 2: the length is still to come. -/
theorem test_src_explicit :
    traceRow (fed (ev 2 0xF1#8) { mid 0 .srcAddr 0x90#8 0#8 with dstPresent := true }) .nothing .length 0x81#8 0#8 0#8
      true true :=
  ⟨_, rfl, rfl, rfl, rfl, rfl, rfl, rfl, rfl, rfl⟩
/-- V22, event 1: the largest length. -/
theorem test_len :
    traceRow (fed (ev 1 0xFF#8) (mid 0 .length 0#8 0#8)) .nothing .serviceId 0xFF#8 0xFF#8 0#8 false false :=
  ⟨_, rfl, rfl, rfl, rfl, rfl, rfl, rfl, rfl, rfl⟩
/-- V18, event 3: zero length; the addresses are discarded. -/
theorem test_len_zero :
    traceRow (fed (ev 3 0#8) (addressed 0x10#8 0xF1#8 (mid 0 .length 0x81#8 0#8))) (.error ⟨.invalidLength, .nth 0, .nth 38⟩)
      .format 0#8 0#8 0#8 false false :=
  ⟨_, rfl, rfl, rfl, rfl, rfl, rfl, rfl, rfl, rfl⟩
/-- S1, event 1. -/
theorem test_sid_params :
    traceRow (fed (ev 1 0x3E#8) (mid 0 .serviceId 2#8 2#8)) .nothing .params 0x40#8 2#8 0#8 false false :=
  ⟨_, rfl, rfl, rfl, rfl, rfl, rfl, rfl, rfl, rfl⟩
/-- V27, event 1: length one goes straight to CHECKSUM, and bit 6 is stored. -/
theorem test_sid_checksum :
    answers (step (fed (ev 1 0x7E#8) (mid 0 .serviceId 1#8 1#8)))
      (fun t => t.phase == .checksum && t.serviceId == 0x7E#8 && t.runningChecksum == 0x7F#8) = true := by decide
/-- P3, event 9: one of two parameters. -/
theorem test_param_more :
    traceRow (fed (ev 9 1#8) (addressed 0x10#8 0xF1#8 (mid 3 .params 0xA5#8 3#8))) .nothing .params 0xA6#8 3#8 1#8
      true true :=
  ⟨_, rfl, rfl, rfl, rfl, rfl, rfl, rfl, rfl, rfl⟩
/-- P3, event 10: the second of two parameters, after the first in its slot. -/
theorem test_param_last :
    answers (step (fed (ev 10 2#8) (holding [1#8] (mid 3 .params 0xA6#8 3#8))))
      (fun t => t.phase == .checksum && t.runningChecksum == 0xA8#8 && t.params == [(0, 1#8), (1, 2#8)]) = true := by decide
/-- V26, event 4: 7F is legal in a frame, named before the table, and the parameters keep their order. -/
theorem test_cks_match :
    traceRow (fed (ev 4 0xD1#8) (holding [0x3E#8, 0x11#8] { mid 0 .checksum 0xD1#8 3#8 with serviceId := 0x7F#8 }))
      (.frame ⟨none, none, 0x7F#8, .negativeResponse, [0x3E#8, 0x11#8], 0xD1#8, .nth 0, .nth 48⟩) .format 0#8 3#8 0#8
      false false :=
  ⟨_, rfl, rfl, rfl, rfl, rfl, rfl, rfl, rfl, rfl⟩
/-- S4, event 4: A0 is not the sum C0. -/
theorem test_cks_mismatch :
    traceRow (fed (ev 4 0xA0#8) (addressed 0x10#8 0xF1#8 (mid 0 .checksum 0xC0#8 1#8)))
      (.error ⟨.invalidChecksum, .nth 0, .nth 48⟩) .format 0#8 1#8 0#8 false false :=
  ⟨_, rfl, rfl, rfl, rfl, rfl, rfl, rfl, rfl, rfl⟩
/-- R166: no step in the phase of code 7, and none of the three errors. -/
theorem test_illstate : exec (.illstate 0x45#8) (State.init 0) = .refused .internalInconsistency := rfl
/-- V3: 7F is named before the table. -/
theorem test_sidnameNeg :
    answers (step { State.init 0 with probe := some (.sid8 0x7F#8) })
      (fun t => t.lookups == [⟨0x7F#8, .negativeResponse⟩] && t.outputs == [] && t.probe == none) = true := by decide
/-- V1, V2. -/
theorem test_sidnameTp :
    answers (step { State.init 0 with probe := some (.sid8 0x3E#8) }) (fun t => t.lookups == [⟨0x3E#8, .testerPresent⟩]) &&
    answers (step { State.init 0 with probe := some (.sid8 0x7E#8) }) (fun t => t.lookups == [⟨0x7E#8, .testerPresent⟩]) =
      true := by decide

/-- The table of V9: empty but for key 3E. -/
def smallTable (k : Byte) : Option Name := if k = 0x3E#8 then some .testerPresent else none

/-- V9, V5 and V6: a table without the key gives "unknown"; BE is not 3E. -/
theorem test_name_unknown :
    sidNameIn smallTable 0x10#8 = .unknown ∧ sidNameIn smallTable 0xFF#8 = .unknown ∧
    sidNameIn smallTable 0xBE#8 = .unknown := by decide
/-- R102: FE is looked up at BE, 40 at 00. -/
theorem test_name_key : sidKey 0xFE#8 = 0xBE#8 ∧ sidKey 0x40#8 = 0x00#8 ∧ sidKey 0xFF#8 = 0xBF#8 := by decide

/-- V32 and V14: construction. -/
theorem test_construction :
    (State.init 5).phase = .format ∧ (State.init 5).runningChecksum = 0#8 ∧ (State.init 5).paramsLen = 0#8 ∧
    (State.init 5).dstPresent = false ∧ (State.init 5).srcPresent = false ∧ (State.init 5).skipRemaining = 5 := by decide

/-- R52: a slot beyond the buffer does not exist. -/
theorem test_param_out_of_range :
    exec (.param 1#8) { mid 0 .params 0#8 0#8 with paramsLen := 254#8 } = .fault .paramsOutOfRange := rfl
/-- U8: a slot nothing has written holds no value. -/
theorem test_cks_unwritten_slot :
    exec (.cks 5#8) { mid 0 .checksum 5#8 2#8 with paramsLen := 1#8 } = .fault .unwrittenSlot := rfl

/-! ### Witnesses: a concrete state and operands that meet the hypotheses of each statement -/

/-- The hypotheses most statements about one step share: no probe, one event to feed, and the step answers. -/
def stepsOn (s : State) (e : Event) : Prop :=
  s.probe = none ∧ s.input = e :: [] ∧ ∃ t, step s = .next t

/-- V10, event 0, fed to a decoder that still skips two. -/
def skipping : State := fed (ev 0 0x45#8) (State.init 2)
/-- V12, event 4, a flagged byte equal to the accumulator. -/
def disturbed : State := fed (flagged 4 0x40#8) (holding [0#8] (mid 1 .checksum 0x40#8 2#8))
/-- S1, event 3: the checksum byte of a good frame. -/
def finishing : State := fed (ev 3 0x40#8) (holding [0#8] { mid 0 .checksum 0x40#8 2#8 with serviceId := 0x3E#8 })
/-- S3, event 3: a wrong checksum byte. -/
def failing : State := fed (ev 3 0x41#8) (holding [0#8] { mid 0 .checksum 0x40#8 2#8 with serviceId := 0x3E#8 })
/-- A parameter byte for the last slot of the buffer, the frame's length 255. -/
def fullest : State := { fed (ev 9 1#8) (mid 0 .params 0#8 255#8) with paramsLen := 253#8 }

theorem witness_SkipDiscardsEvent :
    skipping.skipRemaining ≠ 0 ∧ skipping.probe = none ∧ skipping.input = ev 0 0x45#8 :: [] ∧
    (State.init 1).skipRemaining ≠ 0 :=
  ⟨by decide, rfl, rfl, by decide⟩
theorem witness_BusErrorEventIgnored :
    disturbed.probe = none ∧ disturbed.input = flagged 4 0x40#8 :: [] ∧ disturbed.skipRemaining = 0 ∧
    (flagged 4 0x40#8).err = true :=
  ⟨rfl, rfl, rfl, rfl⟩
theorem witness_LenStoresLength : (1#8).toNat ≠ 0 ∧ (255#8).toNat ≠ 0 := by decide
theorem witness_LenZeroRaises : (0#8).toNat = 0 := by decide
theorem witness_ParamAppendsByte : (State.init 0).paramsLen.toNat < 254 ∧ fullest.paramsLen.toNat < 254 := by decide
theorem witness_CksMatchEmitsFrame :
    0x40#8 = finishing.runningChecksum ∧ [0#8].length = finishing.paramsLen.toNat ∧
    ∀ a, a < [0#8].length → Memory.read finishing.params a = [0#8][a]? := by decide
theorem witness_CksMatchEmitsFrame_no_parameters :
    0xC0#8 = (mid 0 .checksum 0xC0#8 1#8).runningChecksum ∧ ([] : List Byte).length = (mid 0 .checksum 0xC0#8 1#8).paramsLen.toNat ∧
    ∀ a, a < ([] : List Byte).length → Memory.read (mid 0 .checksum 0xC0#8 1#8).params a = ([] : List Byte)[a]? := by decide
theorem witness_CksMismatchRaises : 0x41#8 ≠ failing.runningChecksum := by decide
theorem witness_IllegalPhaseStops :
    { State.init 0 with probe := some (.phase7 0#8) }.probe = some (Probe.phase7 0#8) ∧
    finishing.probe = none ∧ finishing.input = ev 3 0x40#8 :: [] :=
  ⟨rfl, rfl, rfl⟩
theorem witness_StepRunsDecodedOperation :
    (skipping.probe = none ∧ skipping.input = ev 0 0x45#8 :: []) ∧
    (disturbed.probe = none ∧ disturbed.input = flagged 4 0x40#8 :: []) ∧
    { State.init 0 with probe := some (.sid8 0x7F#8) }.probe = some (Probe.sid8 0x7F#8) ∧
    { State.init 0 with probe := some (.phase7 0#8) }.probe = some (Probe.phase7 0#8) ∧
    (State.init 0).probe = none ∧ (State.init 0).input = [] :=
  ⟨⟨rfl, rfl⟩, ⟨rfl, rfl⟩, rfl, rfl, rfl, rfl⟩
theorem witness_DecodeOfEncode :
    Instr.WellFormed (.skip true 7#3 0xFF#8) ∧ Instr.WellFormed (.fmtAddr 1#1 63#6) ∧ Instr.WellFormed (.sidnameTp 1#1) ∧
    Instr.WellFormed (.sidnameTbl 0xFF#8) := by decide
theorem witness_EncodeOfDecode :
    decode [0xFF#8, 0x1F#8] = .ok (.skip true 7#3 0xFF#8) ∧ decode [0x00#8] = .ok (.sidnameTbl 0#8) := ⟨rfl, rfl⟩
theorem witness_DecodeRejectsExactly :
    ([] : List Byte).length = 0 ∧ 2 < [0#8, 0#8, 0#8].length ∧ 8192 ≤ (0#8).toNat + 256 * (0x20#8).toNat ∧
    ¬ 8192 ≤ (0xFF#8).toNat + 256 * (0x1F#8).toNat := by decide
theorem witness_StepIsFeedListing :
    (fullest.probe = none ∧ fullest.input = ev 9 1#8 :: []) ∧ skipping.probe = none ∧ skipping.input = ev 0 0x45#8 :: [] :=
  ⟨⟨rfl, rfl⟩, rfl, rfl⟩

theorem witness_NextPhaseTable_gated : stepsOn skipping (ev 0 0x45#8) ∧ stepsOn disturbed (flagged 4 0x40#8) :=
  ⟨⟨rfl, rfl, _, rfl⟩, rfl, rfl, _, rfl⟩
theorem witness_NextPhaseTable_format :
    stepsOn (fed (ev 0 0x00#8) (State.init 0)) (ev 0 0x00#8) ∧ stepsOn (fed (ev 0 0x3F#8) (State.init 0)) (ev 0 0x3F#8) ∧
    stepsOn (fed (ev 0 0x40#8) (State.init 0)) (ev 0 0x40#8) ∧ stepsOn (fed (ev 0 0x7F#8) (State.init 0)) (ev 0 0x7F#8) ∧
    stepsOn (fed (ev 0 0x80#8) (State.init 0)) (ev 0 0x80#8) ∧ stepsOn (fed (ev 0 0xFF#8) (State.init 0)) (ev 0 0xFF#8) :=
  ⟨⟨rfl, rfl, _, rfl⟩, ⟨rfl, rfl, _, rfl⟩, ⟨rfl, rfl, _, rfl⟩, ⟨rfl, rfl, _, rfl⟩, ⟨rfl, rfl, _, rfl⟩, rfl, rfl, _, rfl⟩
theorem witness_NextPhaseTable_header :
    stepsOn (fed (ev 1 0x10#8) (mid 0 .dstAddr 0x81#8 1#8)) (ev 1 0x10#8) ∧
    stepsOn (fed (ev 2 0xF1#8) (mid 0 .srcAddr 0x90#8 0#8)) (ev 2 0xF1#8) ∧
    stepsOn (fed (ev 2 0xF1#8) (mid 0 .srcAddr 0x91#8 1#8)) (ev 2 0xF1#8) ∧
    stepsOn (fed (ev 1 0#8) (mid 0 .length 0#8 0#8)) (ev 1 0#8) ∧
    stepsOn (fed (ev 1 1#8) (mid 0 .length 0#8 0#8)) (ev 1 1#8) :=
  ⟨⟨rfl, rfl, _, rfl⟩, ⟨rfl, rfl, _, rfl⟩, ⟨rfl, rfl, _, rfl⟩, ⟨rfl, rfl, _, rfl⟩, rfl, rfl, _, rfl⟩
theorem witness_NextPhaseTable_body :
    stepsOn (fed (ev 1 0x3E#8) (mid 0 .serviceId 1#8 1#8)) (ev 1 0x3E#8) ∧
    stepsOn (fed (ev 1 0x3E#8) (mid 0 .serviceId 2#8 2#8)) (ev 1 0x3E#8) ∧
    stepsOn (fed (ev 2 0#8) (mid 0 .params 0x40#8 2#8)) (ev 2 0#8) ∧
    stepsOn (fed (ev 2 0#8) (mid 0 .params 0x41#8 3#8)) (ev 2 0#8) ∧
    stepsOn fullest (ev 9 1#8) ∧ stepsOn finishing (ev 3 0x40#8) ∧ stepsOn failing (ev 3 0x41#8) :=
  ⟨⟨rfl, rfl, _, rfl⟩, ⟨rfl, rfl, _, rfl⟩, ⟨rfl, rfl, _, rfl⟩, ⟨rfl, rfl, _, rfl⟩, ⟨rfl, rfl, _, rfl⟩, ⟨rfl, rfl, _, rfl⟩,
    rfl, rfl, _, rfl⟩

theorem witness_ChecksumAddedOnce :
    (stepsOn skipping (ev 0 0x45#8) ∧ (skipping.skipRemaining ≠ 0 ∨ (ev 0 0x45#8).err = true)) ∧
    (∃ t, step (fed (ev 1 0xFF#8) (mid 0 .dstAddr 0x81#8 1#8)) = .next t ∧ (ev 1 0xFF#8).err = false ∧
      t.outputs = [] ++ [.nothing]) ∧
    (∃ t, step failing = .next t ∧ t.outputs ≠ failing.outputs ++ [.nothing]) ∧
    (stepsOn finishing (ev 3 0x40#8) ∧ finishing.skipRemaining = 0 ∧ finishing.phase = .checksum) :=
  ⟨⟨⟨rfl, rfl, _, rfl⟩, by decide⟩, ⟨_, rfl, rfl, rfl⟩, ⟨_, rfl, by decide⟩, ⟨rfl, rfl, _, rfl⟩, rfl, rfl⟩
theorem witness_OneOutputPerEvent :
    (stepsOn finishing (ev 3 0x40#8) ∧ (ev 3 0x40#8).byte = finishing.runningChecksum) ∧
    (stepsOn (fed (ev 0 0x45#8) (State.init 0)) (ev 0 0x45#8) ∧ (ev 0 0x45#8).byte.toNat / 64 = 1) ∧
    (stepsOn (fed (ev 1 0#8) (mid 0 .length 0#8 0#8)) (ev 1 0#8) ∧ (ev 1 0#8).byte.toNat = 0) ∧
    (stepsOn failing (ev 3 0x41#8) ∧ (ev 3 0x41#8).byte ≠ failing.runningChecksum) :=
  ⟨⟨⟨rfl, rfl, _, rfl⟩, rfl⟩, ⟨⟨rfl, rfl, _, rfl⟩, by decide⟩, ⟨⟨rfl, rfl, _, rfl⟩, by decide⟩, ⟨rfl, rfl, _, rfl⟩, by decide⟩
theorem witness_FieldWriters :
    (∃ t, exec (.fmtAddr 0#1 1#6) (State.init 0) = .next t) ∧ (∃ t, exec (.len 0#8) (State.init 0) = .next t) ∧
    (∃ t, exec (.param 1#8) (State.init 0) = .next t) ∧ (∃ t, exec (.skip false 0#3 0#8) (State.init 1) = .next t) ∧
    1 ≠ (State.init 0).paramsLen.toNat :=
  ⟨⟨_, rfl⟩, ⟨_, rfl⟩, ⟨_, rfl⟩, ⟨_, rfl⟩, by decide⟩
theorem witness_ConsumedEventRecordsEnd :
    (∃ t, exec (.buserr 0#3 0#8) disturbed = .next t) ∧ (∃ t, exec (.fmtUnsup 0#6) disturbed = .next t) ∧
    (∃ t, exec (.param 0#8) (State.init 0) = .next t) ∧ ∃ t, exec (.cks 0x40#8) finishing = .next t :=
  ⟨⟨_, rfl⟩, ⟨_, rfl⟩, ⟨_, rfl⟩, _, rfl⟩
theorem witness_NameIgnoresResponseBit :
    ((0x10#8 : Byte) ≠ 0x7F#8 ∧ (0x10#8 : Byte) ^^^ 0x40#8 ≠ 0x7F#8) ∧
    (∀ k : Byte, k.getLsbD 6 = false →
      smallTable k = (fun k => if k = 0x7E#8 then some Name.unknown else smallTable k) k) := by
  refine ⟨by decide, fun k h => ?_⟩
  have : k ≠ 0x7E#8 := fun e => by subst e; revert h; decide
  simp only [this, if_false]
theorem witness_NameEvaluatedOncePerFrame :
    (stepsOn finishing (ev 3 0x40#8) ∧ ∃ t f, step finishing = .next t ∧ t.outputs = finishing.outputs ++ [.frame f]) ∧
    (stepsOn failing (ev 3 0x41#8) ∧
      ∃ t, step failing = .next t ∧ t.outputs = failing.outputs ++ [.error ⟨.invalidChecksum, .nth 0, .nth 38⟩]) :=
  ⟨⟨⟨rfl, rfl, _, rfl⟩, _, _, rfl, rfl⟩, ⟨rfl, rfl, _, rfl⟩, _, rfl, rfl⟩

/-- After construction, with any events to feed, the invariant holds. -/
theorem inv_after_construction (n : Nat) (es : List Event) : State.Inv { State.init n with input := es } :=
  ⟨rfl, fun _ h => absurd h (Nat.not_lt_zero _), rfl, ⟨rfl, rfl⟩, fun _ => rfl⟩

/-- The state before the checksum byte of S1 meets the invariant. -/
theorem inv_finishing : finishing.Inv := ⟨by decide, by decide, rfl, rfl, by decide⟩

theorem witness_StepKeepsInvariant :
    (finishing.Inv ∧ ∃ t, step finishing = .next t) ∧
    ({ State.init 2 with input := [ev 0 0x45#8] }.Inv ∧ ∃ t, step { State.init 2 with input := [ev 0 0x45#8] } = .next t) :=
  ⟨⟨inv_finishing, _, rfl⟩, inv_after_construction _ _, _, rfl⟩
theorem witness_StepTotalOnInvariant : finishing.Inv ∧ ∀ b, finishing.probe ≠ some (.phase7 b) :=
  ⟨inv_finishing, fun _ h => nomatch h⟩
theorem witness_EmittedFrameShape :
    finishing.Inv ∧ stepsOn finishing (ev 3 0x40#8) ∧
      ∃ t f, step finishing = .next t ∧ t.outputs = finishing.outputs ++ [.frame f] :=
  ⟨inv_finishing, ⟨rfl, rfl, _, rfl⟩, _, _, rfl, rfl⟩
theorem witness_RecoveryAfterEmission :
    ∃ t o, { failing with input := [ev 3 0x41#8, ev 4 0x02#8] }.probe = none ∧
      step { failing with input := [ev 3 0x41#8, ev 4 0x02#8] } = .next t ∧ t.outputs = failing.outputs ++ [o] ∧
      o ≠ .nothing ∧ (ev 4 0x02#8).err = false :=
  ⟨_, .error ⟨.invalidChecksum, .nth 0, .nth 38⟩, rfl, rfl, rfl, by decide, rfl⟩
theorem witness_RunGivesOneOutputPerEvent :
    { State.init 1 with input := [ev 0 0xFF#8, ev 1 0x45#8, ev 2 0x02#8] }.probe = none ∧
    2 ≤ { State.init 1 with input := [ev 0 0xFF#8, ev 1 0x45#8, ev 2 0x02#8] }.input.length ∧
    ∃ t, Host.Core.run Sys2Proof.core 2 { State.init 1 with input := [ev 0 0xFF#8, ev 1 0x45#8, ev 2 0x02#8] } = .next t :=
  ⟨rfl, by decide, _, rfl⟩

/-- V11 without its parameter: a frame with a flagged event in it, and its checksum byte. -/
def disturbedFrame : List Event := [ev 0 0x01#8, flagged 1 0xFF#8, ev 2 0x3E#8]

theorem witness_ChecksumAccumulatesFrame :
    ∃ t u f, { State.init 0 with input := disturbedFrame ++ [ev 3 0x3F#8] }.Inv ∧
      Host.Core.run Sys2Proof.core disturbedFrame.length { State.init 0 with input := disturbedFrame ++ [ev 3 0x3F#8] } =
        .next t ∧
      t.outputs = [] ++ List.replicate disturbedFrame.length .nothing ∧
      step t = .next u ∧ u.outputs = t.outputs ++ [.frame f] :=
  ⟨_, _, _, inv_after_construction _ _, rfl, rfl, rfl, rfl⟩

/-- V15, V30, S4c and V18's header with a length of one: the four layouts. -/
def wireFrames : List (WireFrame × List Byte) :=
  [(⟨none, false, 0x3E#8, []⟩, [0x01#8, 0x3E#8, 0x3F#8]),
   (⟨none, true, 0x3E#8, []⟩, [0x00#8, 0x01#8, 0x3E#8, 0x3F#8]),
   (⟨some ⟨0#1, 0x10#8, 0xF1#8⟩, false, 0x3E#8, []⟩, [0x81#8, 0x10#8, 0xF1#8, 0x3E#8, 0xC0#8]),
   (⟨some ⟨1#1, 0x10#8, 0xF1#8⟩, true, 0x21#8, [1#8, 2#8]⟩,
     [0xC0#8, 0x10#8, 0xF1#8, 0x03#8, 0x21#8, 0x01#8, 0x02#8, 0xE8#8])]

theorem test_wire_bytes : wireFrames.all (fun p => p.1.wire == p.2) = true := by decide
theorem witness_WireFramesDecode_lengths :
    (⟨none, false, 0x3E#8, List.replicate 62 0#8⟩ : WireFrame).Encodable ∧
    ¬ (⟨none, false, 0x3E#8, List.replicate 63 0#8⟩ : WireFrame).Encodable ∧
    (⟨none, true, 0x3E#8, List.replicate 254 1#8⟩ : WireFrame).Encodable := by
  simp only [WireFrame.Encodable, WireFrame.length, List.length_replicate]; decide
theorem witness_WireFramesDecode :
    (⟨none, false, 0x3E#8, []⟩ : WireFrame).Encodable ∧
    { State.init 0 with input := [ev 0 0x01#8, ev 1 0x3E#8, ev 2 0x3F#8] ++ [ev 3 0x45#8] }.Inv ∧
    [ev 0 0x01#8, ev 1 0x3E#8, ev 2 0x3F#8].map Event.byte = (⟨none, false, 0x3E#8, []⟩ : WireFrame).wire ∧
    (∀ e ∈ [ev 0 0x01#8, ev 1 0x3E#8, ev 2 0x3F#8], e.err = false) ∧
    [ev 0 0x01#8, ev 1 0x3E#8, ev 2 0x3F#8].head? = some (ev 0 0x01#8) ∧
    [ev 0 0x01#8, ev 1 0x3E#8, ev 2 0x3F#8].getLast? = some (ev 2 0x3F#8) :=
  ⟨by simp [WireFrame.Encodable, WireFrame.length], inv_after_construction _ _, by decide, by decide, rfl, rfl⟩
theorem witness_SkipIsolation : 2 + 1 ≤ [ev 0 0x45#8, ev 1 0x00#8, ev 2 0x45#8].length := by decide
theorem witness_BusErrorIsolation :
    (State.init 0).probe = none ∧ (State.init 0).skipRemaining = 0 ∧
    ∃ t, Host.Core.run Sys2Proof.core disturbedFrame.length { State.init 0 with input := disturbedFrame } = .next t :=
  ⟨rfl, rfl, _, rfl⟩
/-- Two states that agree and differ in the length, in a masked address and in a slot nothing will read. -/
theorem witness_UnwrittenValuesUnobservable :
    State.Agree (State.init 0) { State.init 0 with remainingLength := 9#8, dstAddr := 7#8, params := [(0, 1#8)] } ∧
    State.init 0 ≠ { State.init 0 with remainingLength := 9#8, dstAddr := 7#8, params := [(0, 1#8)] } :=
  ⟨⟨rfl, rfl, rfl, rfl, rfl, rfl, rfl, rfl, fun _ h => absurd h (Nat.not_lt_zero _), rfl, rfl, fun h => absurd rfl h,
    fun h => absurd rfl h, fun _ => rfl⟩, by decide⟩

end Sys2Proof.Tests
end

section
/-! PROOFS. One output for each event (00_scope.md R5, R9, 30_encoding.md R82): what LEN, PARAM and CKS can answer, the one
output of a dispatch operation, of a step on an event, and of a run on a stream (O38). -/

namespace Sys2Proof.Machine

/-! ### The operations with more than one answer -/

/-- What LEN can answer (R126): the error on a zero byte, the length stored on any other. -/
theorem execLen_next {b : Byte} {s t : State} (h : execLen b s = .next t) :
    (b = 0#8 ∧ t = (s.consume.setLength b).raise .invalidLength) ∨
    (b ≠ 0#8 ∧ t = (((s.consume.setLength b).goto .serviceId).cksAdd b).emit .nothing) := by
  simp only [execLen, lenZero, beq_iff_eq] at h
  split at h
  · cases h; exact .inl ⟨‹_›, rfl⟩
  · cases h; exact .inr ⟨‹_›, rfl⟩

/-- What PARAM can answer (R141): with slot `params_len` in range, `u` is the state after the append. -/
theorem execParam_next {b : Byte} {s t : State} (h : execParam b s = .next t) :
    s.paramsLen.toNat < paramMax ∧ ∃ u : State,
      u = { s.consume with params := s.params.write s.paramsLen.toNat b, paramsLen := s.paramsLen + 1#8 } ∧
      t = ((u.goto (if u.paramsComplete then .checksum else .params)).cksAdd b).emit .nothing := by
  rcases State.appendParam_cases (b := b) (s := s.consume) with ⟨hlt, happ⟩ | ⟨-, happ⟩
  · simp only [execParam, happ, Host.Outcome.next.injEq] at h
    exact ⟨hlt, _, rfl, h.symm⟩
  · simp [execParam, happ] at h

/-- What CKS can answer (R142): the frame on a match, with the copied parameters, and the error on a mismatch. -/
theorem execCks_next {b : Byte} {s t : State} (h : execCks b s = .next t) :
    (b = s.runningChecksum ∧ ∃ ps, s.params.readSeq s.paramsLen.toNat = some ps ∧
      t = ((s.consume.logLookup s.serviceId (sidName s.serviceId)).emit
        (.frame (s.consume.decodedFrame b ps))).resetContext) ∨
    (b ≠ s.runningChecksum ∧ t = s.consume.raise .invalidChecksum) := by
  simp only [execCks, State.cksMatch, State.consume_runningChecksum, State.consume_params, State.consume_paramsLen,
    beq_iff_eq] at h
  split at h
  · split at h
    · cases h; exact .inl ⟨‹_›, _, ‹_›, rfl⟩
    · cases h
  · cases h; exact .inr ⟨‹_›, rfl⟩

/-! ### One operation -/

/-- Between `s` and `t` exactly one output was given, and neither the stream nor the probe was touched. -/
def State.EmitsOne (s t : State) : Prop :=
  t.input = s.input ∧ t.probe = s.probe ∧ ∃ o, t.outputs = s.outputs ++ [o]

/-- Every operation of a dispatch word gives one output (R82). The SID8 rows are no operations of a step (R86) and give none. -/
theorem exec_emitsOne {i : Instr} {s t : State} (hi : i.row.width = 13) (h : exec i s = .next t) : s.EmitsOne t := by
  cases i with
  | skip | buserr | fmtCompact | fmtUnsup | fmtAddr | dst | src | sid => cases h; exact ⟨rfl, rfl, _, rfl⟩
  | len b => rcases execLen_next h with ⟨-, rfl⟩ | ⟨-, rfl⟩ <;> exact ⟨rfl, rfl, _, rfl⟩
  | param b => obtain ⟨-, u, rfl, rfl⟩ := execParam_next h; exact ⟨rfl, rfl, _, rfl⟩
  | cks b => rcases execCks_next h with ⟨-, ps, -, rfl⟩ | ⟨-, rfl⟩ <;> exact ⟨rfl, rfl, _, rfl⟩
  | illstate => cases h
  | sidnameNeg | sidnameTp | sidnameTbl => simp [Instr.row] at hi

/-! ### One step -/

theorem decodeFormatByte_row_width (b : Byte) : (decodeFormatByte b).row.width = 13 := by
  unfold decodeFormatByte
  split
  · rfl
  · split <;> rfl

theorem decodeConsumed_row_width (phase : BitVec 3) (b : Byte) : (decodeConsumed phase b).row.width = 13 := by
  unfold decodeConsumed
  split
  · exact decodeFormatByte_row_width b
  all_goals rfl

/-- A dispatch word selects a DISPATCH13 row, never a SID8 row (R86). -/
theorem decodeDispatch_row_width (w : DispatchWord) : (decodeDispatch w).row.width = 13 := by
  unfold decodeDispatch
  split
  · rfl
  · split
    · rfl
    · exact decodeConsumed_row_width _ _

/-- With no probe put, a step runs the operation the next event selects (R85 to R87). -/
theorem step_event {s : State} {e : Event} {rest : List Event} (hp : s.probe = none) (hi : s.input = e :: rest) :
    step s = exec (decodeDispatch (dispatchWord s.skipActive s.phase e)) (s.present e rest) := by
  simp [step, State.fetch_event hp hi]

/-- A step on an event takes that event and gives one output (R5, R82). -/
theorem step_event_emits_one {s t : State} {e : Event} {rest : List Event} (hp : s.probe = none)
    (hi : s.input = e :: rest) (h : step s = .next t) :
    t.input = rest ∧ t.probe = none ∧ ∃ o, t.outputs = s.outputs ++ [o] := by
  rw [step_event hp hi] at h
  obtain ⟨hinput, hprobe, o, ho⟩ := exec_emitsOne (decodeDispatch_row_width _) h
  exact ⟨hinput, hprobe.trans hp, o, ho⟩

/-! ### A run -/

/-- A run of `k + 1` steps that answers is a step that answers, and a run of `k` steps from there. -/
theorem run_succ_next {k : Nat} {s t : State} (h : Host.Core.run Sys2Proof.core (k + 1) s = .next t) :
    ∃ u : State, step s = .next u ∧ Host.Core.run Sys2Proof.core k u = .next t := by
  simp only [Host.Core.run] at h
  split at h
  · exact ⟨_, ‹_›, h⟩
  all_goals cases h

/-- Settles O38, by induction on the number of steps: each step takes the first event and appends one output. -/
theorem runGivesOneOutputPerEvent : Obligations.RunGivesOneOutputPerEvent := by
  unfold Obligations.RunGivesOneOutputPerEvent
  intro k
  induction k with
  | zero =>
    intro s t _ _ hrun
    cases hrun
    exact ⟨rfl, [], rfl, (List.append_nil _).symm⟩
  | succ k ih =>
    intro s t hp hlen hrun
    obtain ⟨e, rest, hi⟩ := List.exists_cons_of_length_pos (Nat.zero_lt_of_lt hlen)
    obtain ⟨u, hstep, hrun⟩ := run_succ_next hrun
    obtain ⟨huinput, huprobe, o, huout⟩ := step_event_emits_one hp hi hstep
    have hk : k ≤ u.input.length := by simpa [hi, huinput] using hlen
    obtain ⟨htinput, os, hos, htout⟩ := ih u t huprobe hk hrun
    refine ⟨by simp [htinput, huinput, hi], o :: os, by simp [hos], ?_⟩
    simp [htout, huout]

end Sys2Proof.Machine
end

section
/-! PROOFS. What one step on an event can do (30_encoding.md R85 to R87): the operation it selects, and, for a consumed event,
the state it answers, a case for each row. -/

namespace Sys2Proof.Machine

/-! ### The operation an event selects -/

@[simp] theorem extractLsb'_phase_mkDispatch (skip err : BitVec 1) (phase : BitVec 3) (b : Byte) :
    (mkDispatch skip err phase b).extractLsb' 8 3 = phase := by
  apply BitVec.eq_of_getLsbD_eq
  intro k hk
  simp [getLsbD_mkDispatch, hk, show 8 + k < 11 by omega]

@[simp] theorem extractLsb'_byte_mkDispatch (skip err : BitVec 1) (phase : BitVec 3) (b : Byte) :
    (mkDispatch skip err phase b).extractLsb' 0 8 = b := by
  apply BitVec.eq_of_getLsbD_eq
  intro k hk
  simp [getLsbD_mkDispatch, hk]

/-- The operation of a dispatch word put together from its fields (R85, R86): the skip first, then the flag, then the phase. -/
theorem decodeDispatch_mkDispatch (skip err : Bool) (phase : BitVec 3) (b : Byte) :
    decodeDispatch (mkDispatch (BitVec.ofBool skip) (BitVec.ofBool err) phase b) =
      if skip then .skip err phase b else if err then .buserr phase b else decodeConsumed phase b := by
  have hskip : (mkDispatch (BitVec.ofBool skip) (BitVec.ofBool err) phase b).getLsbD 12 = skip := by
    rw [getLsbD_mkDispatch]; cases skip <;> rfl
  have herr : (mkDispatch (BitVec.ofBool skip) (BitVec.ofBool err) phase b).getLsbD 11 = err := by
    rw [getLsbD_mkDispatch]; cases err <;> rfl
  rw [decodeDispatch, hskip, herr, extractLsb'_phase_mkDispatch, extractLsb'_byte_mkDispatch]

/-- A probe with phase code 7 runs ILLSTATE (R166; log 4). -/
theorem Probe.decode_phase7 (b : Byte) : (Probe.phase7 b).decode = .illstate b :=
  decodeDispatch_mkDispatch false false 7#3 b

/-- The inline length of a format byte is its six low bits (R72, R74). -/
theorem inlineLength_toNat (b : Byte) : (inlineLength (b.extractLsb' 0 6)).toNat = b.toNat % 64 := by
  have hlow : b.toNat % 64 < 2 ^ 8 := by omega
  rw [inlineLength, BitVec.toNat_setWidth, BitVec.extractLsb'_toNat, Nat.shiftRight_zero, Nat.mod_eq_of_lt hlow]

theorem inlineZero_iff (b : Byte) : inlineZero (b.extractLsb' 0 6) = true ↔ b.toNat % 64 = 0 := by
  simp [inlineZero, ← BitVec.toNat_inj, BitVec.extractLsb'_toNat]

/-- The value of a format byte (R72). -/
theorem formatByte_toNat (mode : BitVec 2) (len6 : BitVec 6) :
    (formatByte mode len6).toNat = 64 * mode.toNat + len6.toNat := by
  rw [formatByte, BitVec.toNat_append, ← Nat.shiftLeft_add_eq_or_of_lt len6.isLt, Nat.shiftLeft_eq, Nat.mul_comm]

/-- What the mode field of a format byte says (R72, R73): the operation, and for a mode that goes on the byte put together
again from the operands. -/
theorem decodeFormatByte_cases (b : Byte) :
    (b.toNat / 64 = 0 ∧ decodeFormatByte b = .fmtCompact (b.extractLsb' 0 6) ∧
      formatByte 0b00#2 (b.extractLsb' 0 6) = b) ∨
    (b.toNat / 64 = 1 ∧ decodeFormatByte b = .fmtUnsup (b.extractLsb' 0 6)) ∨
    (2 ≤ b.toNat / 64 ∧ decodeFormatByte b = .fmtAddr (b.extractLsb' 6 1) (b.extractLsb' 0 6) ∧
      formatByte (1#1 ++ b.extractLsb' 6 1) (b.extractLsb' 0 6) = b) := by
  have hlt := b.isLt
  have hbit7 : b.getLsbD 7 = true ↔ b.toNat / 128 % 2 = 1 := by
    simp only [BitVec.getLsbD, Nat.testBit_eq_decide_div_mod_eq, decide_eq_true_eq, Nat.reducePow]
  have hbit6 : b.getLsbD 6 = true ↔ b.toNat / 64 % 2 = 1 := by
    simp only [BitVec.getLsbD, Nat.testBit_eq_decide_div_mod_eq, decide_eq_true_eq, Nat.reducePow]
  unfold decodeFormatByte
  split
  case isTrue h =>
    rw [hbit7] at h
    refine .inr (.inr ⟨by omega, rfl, BitVec.eq_of_toNat_eq ?_⟩)
    have hmode : (1#1 ++ b.extractLsb' 6 1).toNat = 2 + b.toNat / 64 % 2 := by
      rw [BitVec.toNat_append, ← Nat.shiftLeft_add_eq_or_of_lt (BitVec.isLt _), BitVec.extractLsb'_toNat,
        Nat.shiftRight_eq_div_pow]
      rfl
    rw [formatByte_toNat, hmode, BitVec.extractLsb'_toNat, Nat.shiftRight_zero]
    omega
  case isFalse h =>
    rw [hbit7] at h
    split
    case isTrue h' =>
      rw [hbit6] at h'
      exact .inr (.inl ⟨by omega, rfl⟩)
    case isFalse h' =>
      rw [hbit6] at h'
      refine .inl ⟨by omega, rfl, BitVec.eq_of_toNat_eq ?_⟩
      rw [formatByte_toNat, BitVec.extractLsb'_toNat, Nat.shiftRight_zero, BitVec.toNat_ofNat]
      omega

/-! ### The append of PARAM -/

/-- The registers after an append to an existing slot: the byte in the slot at the fill count, and the count one up (R28). -/
def State.storeParam (b : Byte) (s : State) : State :=
  { s with params := s.params.write s.paramsLen.toNat b, paramsLen := s.paramsLen + 1#8 }

section
variable (b : Byte) (s : State)

@[simp] theorem State.storeParam_params : (s.storeParam b).params = s.params.write s.paramsLen.toNat b := rfl
@[simp] theorem State.storeParam_paramsLen : (s.storeParam b).paramsLen = s.paramsLen + 1#8 := rfl
@[simp] theorem State.storeParam_runningChecksum : (s.storeParam b).runningChecksum = s.runningChecksum := rfl
@[simp] theorem State.storeParam_outputs : (s.storeParam b).outputs = s.outputs := rfl

end

section
variable {b : Byte} {s : State}

theorem State.appendParam_of_lt (hslot : s.paramsLen.toNat < paramMax) : s.appendParam b = .ok (s.storeParam b) :=
  if_pos hslot

theorem State.appendParam_of_le (hfull : paramMax ≤ s.paramsLen.toNat) : s.appendParam b = .error .paramsOutOfRange :=
  if_neg (Nat.not_lt.mpr hfull)

/-- Below slot 254 the 8-bit count does not wrap (R29). -/
theorem State.storeParam_paramsLen_toNat (hslot : s.paramsLen.toNat < paramMax) :
    (s.storeParam b).paramsLen.toNat = s.paramsLen.toNat + 1 := by
  simp only [paramMax, State.storeParam_paramsLen] at *
  bv_omega

/-- The 8-bit comparison of PARAM, read over the natural numbers (R27, R141; log 20). -/
theorem State.storeParam_paramsComplete (hslot : s.paramsLen.toNat < paramMax) :
    (s.storeParam b).paramsComplete = true ↔ s.paramsLen.toNat + 1 + 1 = s.remainingLength.toNat := by
  simp only [State.paramsComplete, State.storeParam, beq_iff_eq, paramMax] at *
  bv_omega

/-- PARAM below slot 254 (R141): the byte is stored and counted, and the count after the append decides the phase. -/
theorem execParam_of_lt (hslot : s.paramsLen.toNat < paramMax) :
    execParam b s = .next ((((s.consume.storeParam b).goto
      (if s.paramsLen.toNat + 1 + 1 = s.remainingLength.toNat then .checksum else .params)).cksAdd b).emit .nothing) := by
  have hslot' : s.consume.paramsLen.toNat < paramMax := hslot
  simp only [execParam, State.appendParam_of_lt hslot', State.storeParam_paramsComplete hslot', State.consume_paramsLen,
    State.consume_remainingLength]

/-- PARAM at slot 254 or above faults (R52, R29). -/
theorem execParam_of_le (hfull : paramMax ≤ s.paramsLen.toNat) : execParam b s = .fault .paramsOutOfRange := by
  rw [execParam, State.appendParam_of_le (s := s.consume) hfull]

end

/-! ### What a consumed event can do -/

/-- What an operation of a consumed byte `b` can answer in the state `s` (R120 to R126, R140 to R142), a case for each row and
each of its outcomes: the condition on the phase, on the byte and on the registers, and the state answered. -/
inductive State.Consumed (b : Byte) (s : State) : State → Prop
  | fmtCompact (hphase : s.phase = .format) (hmode : b.toNat / 64 = 0) :
    s.Consumed b ((((s.consume.beginFrame.setLength (inlineLength (b.extractLsb' 0 6))).goto
      (if b.toNat % 64 = 0 then .length else .serviceId)).cksAdd b).emit .nothing)
  | fmtUnsup (hphase : s.phase = .format) (hmode : b.toNat / 64 = 1) :
    s.Consumed b (s.consume.beginFrame.raise .unsupportedFormat)
  | fmtAddr (hphase : s.phase = .format) (hmode : 2 ≤ b.toNat / 64) :
    s.Consumed b ((((s.consume.beginFrame.setLength (inlineLength (b.extractLsb' 0 6))).goto
      .dstAddr).cksAdd b).emit .nothing)
  | dst (hphase : s.phase = .dstAddr) :
    s.Consumed b ((((s.consume.setDst b).goto .srcAddr).cksAdd b).emit .nothing)
  | src (hphase : s.phase = .srcAddr) :
    s.Consumed b ((((s.consume.setSrc b).goto
      (if s.remainingLength.toNat = 0 then .length else .serviceId)).cksAdd b).emit .nothing)
  | lenZero (hphase : s.phase = .length) (hzero : b.toNat = 0) :
    s.Consumed b ((s.consume.setLength b).raise .invalidLength)
  | len (hphase : s.phase = .length) (hpos : b.toNat ≠ 0) :
    s.Consumed b ((((s.consume.setLength b).goto .serviceId).cksAdd b).emit .nothing)
  | sid (hphase : s.phase = .serviceId) :
    s.Consumed b ((((s.consume.setServiceId b).goto
      (if s.remainingLength.toNat = 1 then .checksum else .params)).cksAdd b).emit .nothing)
  | param (hphase : s.phase = .params) (hslot : s.paramsLen.toNat < paramMax) :
    s.Consumed b ((((s.consume.storeParam b).goto
      (if s.paramsLen.toNat + 1 + 1 = s.remainingLength.toNat then .checksum else .params)).cksAdd b).emit .nothing)
  | cksMatch (ps : List Byte) (hphase : s.phase = .checksum) (hsum : b = s.runningChecksum)
    (hread : s.params.readSeq s.paramsLen.toNat = some ps) :
    s.Consumed b ((s.consume.logLookup s.serviceId (sidName s.serviceId)).emit
      (.frame (s.consume.decodedFrame b ps))).resetContext
  | cksMismatch (hphase : s.phase = .checksum) (hsum : b ≠ s.runningChecksum) :
    s.Consumed b (s.consume.raise .invalidChecksum)

/-- The operation that the phase and a consumed byte select answers one of the states of `State.Consumed`. -/
theorem consumed_of_exec {b : Byte} {s t : State} (h : exec (decodeConsumed s.phase.code b) s = .next t) :
    s.Consumed b t := by
  cases hphase : s.phase with rw [hphase] at h
  | format =>
    change exec (decodeFormatByte b) s = .next t at h
    rcases decodeFormatByte_cases b with ⟨hmode, hop, hbyte⟩ | ⟨hmode, hop⟩ | ⟨hmode, hop, hbyte⟩ <;> rw [hop] at h
    · simp only [exec, execFmtCompact, hbyte, inlineZero_iff] at h
      cases h; exact .fmtCompact hphase hmode
    · cases h; exact .fmtUnsup hphase hmode
    · simp only [exec, execFmtAddr, hbyte] at h
      cases h; exact .fmtAddr hphase hmode
  | dstAddr => cases h; exact .dst hphase
  | srcAddr =>
    change execSrc b s = .next t at h
    simp only [execSrc, State.needLen, beq_iff_eq, ← BitVec.toNat_inj] at h
    cases h; exact .src hphase
  | length =>
    rcases execLen_next h with ⟨rfl, rfl⟩ | ⟨hb, rfl⟩
    · exact .lenZero hphase rfl
    · exact .len hphase (by simpa [← BitVec.toNat_inj] using hb)
  | serviceId =>
    change execSid b s = .next t at h
    simp only [execSid, State.noParams, beq_iff_eq, ← BitVec.toNat_inj] at h
    cases h; exact .sid hphase
  | params =>
    change execParam b s = .next t at h
    obtain ⟨hslot, -⟩ := execParam_next h
    rw [execParam_of_lt hslot] at h
    cases h; exact .param hphase hslot
  | checksum =>
    rcases execCks_next h with ⟨hsum, ps, hread, rfl⟩ | ⟨hsum, rfl⟩
    · exact .cksMatch ps hphase hsum hread
    · exact .cksMismatch hphase hsum

/-! ### What a step can do -/

/-- With no probe put and no event left the decoder is idle (R180; log 1). -/
theorem step_idle {s : State} (hp : s.probe = none) (hi : s.input = []) : step s = .next s := by
  rw [step, State.fetch_idle hp hi]

/-- What a step on an event can do (R87): count a skipped event, ignore a flagged one, or consume the byte. -/
theorem step_event_cases {s t : State} {e : Event} {rest : List Event} (hp : s.probe = none) (hi : s.input = e :: rest)
    (h : step s = .next t) :
    (s.skipRemaining ≠ 0 ∧ t = (s.present e rest).countSkip.emit .nothing) ∨
    (s.skipRemaining = 0 ∧ e.err = true ∧ t = (s.present e rest).emit .nothing) ∨
    (s.skipRemaining = 0 ∧ e.err = false ∧ (s.present e rest).Consumed e.byte t) := by
  rw [step_event hp hi, dispatchWord, decodeDispatch_mkDispatch] at h
  split at h
  case isTrue hskip =>
    cases h
    exact .inl ⟨by simpa [State.skipActive] using hskip, rfl⟩
  case isFalse hskip =>
    have hzero : s.skipRemaining = 0 := by simpa [State.skipActive] using hskip
    split at h
    case isTrue herr => cases h; exact .inr (.inl ⟨hzero, herr, rfl⟩)
    case isFalse herr => exact .inr (.inr ⟨hzero, by simpa using herr, consumed_of_exec h⟩)

end Sys2Proof.Machine
end

section
/-! PROOFS. The invariant (10_state.md R39 to R42): it holds after construction (O32, O33), every step keeps it (O34), and it
gives an emitted frame its shape (O36). -/

namespace Sys2Proof.Machine

/-! ### Construction -/

/-- Settles O32: every field is read off the definition of construction. -/
theorem constructionValues : Obligations.ConstructionValues := by
  unfold Obligations.ConstructionValues
  exact ⟨fun n => ⟨rfl, rfl, rfl, rfl, rfl, rfl, fun _ => rfl, rfl⟩, rfl, rfl⟩

/-- Construction leaves no slot below the fill count, no address and an empty accumulator (R43). -/
theorem State.inv_init (n : Nat) : (State.init n).Inv where
  paramsWf := rfl
  slotsHeld _ h := absurd h (Nat.not_lt_zero _)
  lengths := rfl
  presence := ⟨rfl, rfl⟩
  emptySum _ := rfl

/-- Settles O33: reset is construction with the platform's SKIP_COUNT. -/
theorem constructionMeetsInvariant : Obligations.ConstructionMeetsInvariant := by
  unfold Obligations.ConstructionMeetsInvariant
  exact ⟨State.inv_init Config.skipCount, State.inv_init⟩

/-! ### The shared operations -/

section
variable {s : State}

/-- Taking an event writes no field the invariant speaks of. -/
theorem State.Inv.present (h : s.Inv) (e : Event) (rest : List Event) : (s.present e rest).Inv := { h with }

theorem State.Inv.emit (h : s.Inv) (o : Output) : (s.emit o).Inv := { h with }

theorem State.Inv.countSkip (h : s.Inv) : s.countSkip.Inv := { h with }

theorem State.Inv.logLookup (h : s.Inv) (b : Byte) (n : Name) : (s.logLookup b n).Inv := { h with }

theorem State.Inv.clearProbe (h : s.Inv) : State.Inv { s with probe := none } := { h with }

/-- `ResetContext()` gives the empty form from any canonical buffer (R37). -/
theorem State.inv_resetContext (hwf : Memory.wf s.params = true) : s.resetContext.Inv where
  paramsWf := hwf
  slotsHeld _ h := absurd h (Nat.not_lt_zero _)
  lengths := rfl
  presence := ⟨rfl, rfl⟩
  emptySum _ := rfl

theorem State.inv_raise {k : ErrorKind} (hwf : Memory.wf s.params = true) : (s.raise k).Inv :=
  State.inv_resetContext hwf

end

/-! ### A step -/

/-- A consumed event keeps the invariant: an emission leaves the empty form, and every other case enters its next phase with
the lengths and the presence flags that phase asks for. -/
theorem State.Consumed.inv {b : Byte} {s t : State} (hinv : s.Inv) (h : s.Consumed b t) : t.Inv := by
  obtain ⟨hwf, hslots, hlen, hpres, -⟩ := hinv
  cases h with
  | fmtUnsup | lenZero | cksMismatch => exact State.inv_raise hwf
  | cksMatch => exact State.inv_resetContext hwf
  | fmtCompact hphase =>
    have hlow := inlineLength_toNat b
    split
    case isTrue hzero => exact ⟨hwf, fun _ h => absurd h (Nat.not_lt_zero _), ⟨rfl, hlow.trans hzero⟩, rfl, nofun⟩
    case isFalse hpos =>
      exact ⟨hwf, fun _ h => absurd h (Nat.not_lt_zero _), ⟨rfl, Nat.pos_of_ne_zero (hlow ▸ hpos)⟩, rfl, nofun⟩
  | fmtAddr hphase =>
    have hlow : (inlineLength (b.extractLsb' 0 6)).toNat ≤ 63 := by rw [inlineLength_toNat]; omega
    exact ⟨hwf, fun _ h => absurd h (Nat.not_lt_zero _), ⟨rfl, hlow⟩, ⟨rfl, rfl⟩, nofun⟩
  | dst hphase =>
    simp only [State.LengthsFit, State.PresenceFits, hphase] at hlen hpres
    exact ⟨hwf, hslots, hlen, ⟨rfl, hpres.2⟩, nofun⟩
  | src hphase =>
    simp only [State.LengthsFit, State.PresenceFits, hphase] at hlen hpres
    split
    case isTrue hzero => exact ⟨hwf, hslots, ⟨hlen.1, hzero⟩, hpres.1, nofun⟩
    case isFalse hpos => exact ⟨hwf, hslots, ⟨hlen.1, Nat.pos_of_ne_zero hpos⟩, hpres.1, nofun⟩
  | len hphase hpos =>
    simp only [State.LengthsFit, State.PresenceFits, hphase] at hlen hpres
    exact ⟨hwf, hslots, ⟨hlen.1, Nat.pos_of_ne_zero hpos⟩, hpres, nofun⟩
  | sid hphase =>
    simp only [State.LengthsFit, State.PresenceFits, hphase] at hlen hpres
    obtain ⟨hempty, hpos⟩ := hlen
    split
    case isTrue hone =>
      have hfull : s.paramsLen.toNat + 1 = s.remainingLength.toNat := by omega
      exact ⟨hwf, hslots, hfull, hpres, nofun⟩
    case isFalse hmore =>
      have hroom : s.paramsLen.toNat + 1 < s.remainingLength.toNat := by omega
      exact ⟨hwf, hslots, hroom, hpres, nofun⟩
  | param hphase hslot =>
    simp only [State.LengthsFit, State.PresenceFits, hphase] at hlen hpres
    have hcount := State.storeParam_paramsLen_toNat (b := b) hslot
    have hwf' := Memory.write_wf s.params b hwf hslot
    have hheld : ∀ a, a < (s.storeParam b).paramsLen.toNat → (Memory.read (s.storeParam b).params a).isSome = true := by
      intro a ha
      rw [State.storeParam_params, Memory.read_write]
      split
      case isTrue => rfl
      case isFalse hne => exact hslots a (by omega)
    split
    case isTrue hlast =>
      have hfull : (s.storeParam b).paramsLen.toNat + 1 = s.remainingLength.toNat := by omega
      exact ⟨hwf', hheld, hfull, hpres, nofun⟩
    case isFalse hmore =>
      have hroom : (s.storeParam b).paramsLen.toNat + 1 < s.remainingLength.toNat := by omega
      exact ⟨hwf', hheld, hroom, hpres, nofun⟩

/-- A step on an event keeps the invariant. -/
theorem step_event_inv {s t : State} {e : Event} {rest : List Event} (hinv : s.Inv) (hp : s.probe = none)
    (hi : s.input = e :: rest) (h : step s = .next t) : t.Inv := by
  rcases step_event_cases hp hi h with ⟨-, rfl⟩ | ⟨-, -, rfl⟩ | ⟨-, -, hc⟩
  · exact ((hinv.present e rest).countSkip).emit _
  · exact (hinv.present e rest).emit _
  · exact hc.inv (hinv.present e rest)

/-- What a step on a probe can answer (log 4): one more lookup on record, and no probe; ILLSTATE answers no state. -/
theorem step_probe_cases {s t : State} {p : Probe} (hp : s.probe = some p) (h : step s = .next t) :
    ∃ b n, t = State.logLookup b n { s with probe := none } := by
  simp only [step, State.fetch_probe hp] at h
  cases p with
  | sid8 b =>
    simp only [Probe.decode, decodeSid8] at h
    split at h
    · cases h; exact ⟨_, _, rfl⟩
    · split at h <;> cases h <;> exact ⟨_, _, rfl⟩
  | phase7 b =>
    rw [Probe.decode_phase7] at h
    cases h

/-- Settles O34: a step on a probe writes no field of the decoder, one on an event keeps the invariant in every case, and an
idle step changes nothing. -/
theorem stepKeepsInvariant : Obligations.StepKeepsInvariant := by
  unfold Obligations.StepKeepsInvariant
  intro s t hinv h
  cases hp : s.probe with
  | some p =>
    obtain ⟨b, n, rfl⟩ := step_probe_cases hp h
    exact hinv.clearProbe.logLookup b n
  | none =>
    cases hi : s.input with
    | nil =>
      rw [step_idle hp hi] at h
      cases h; exact hinv
    | cons e rest => exact step_event_inv hinv hp hi h

/-! ### An emitted frame -/

/-- A consumed event that emits a frame is a matching checksum byte, and the frame is the one CKS builds (R83, R142). -/
theorem State.Consumed.frame {b : Byte} {s t : State} {f : DecodedFrame} (h : s.Consumed b t)
    (hout : t.outputs = s.outputs ++ [.frame f]) :
    s.phase = .checksum ∧ b = s.runningChecksum ∧ ∃ ps, s.params.readSeq s.paramsLen.toNat = some ps ∧
      f = s.consume.decodedFrame b ps := by
  cases h with
  | cksMatch ps hphase hsum hread => exact ⟨hphase, hsum, ps, hread, by simpa using hout.symm⟩
  | fmtCompact | fmtUnsup | fmtAddr | dst | src | lenZero | len | sid | param | cksMismatch => simp at hout

/-- A step on an event that emits a frame consumes a checksum byte equal to the accumulator (R142). -/
theorem step_event_frame {s t : State} {e : Event} {rest : List Event} {f : DecodedFrame} (hp : s.probe = none)
    (hi : s.input = e :: rest) (h : step s = .next t) (hout : t.outputs = s.outputs ++ [.frame f]) :
    s.phase = .checksum ∧ e.byte = s.runningChecksum ∧ ∃ ps, s.params.readSeq s.paramsLen.toNat = some ps ∧
      f = (s.present e rest).consume.decodedFrame e.byte ps := by
  rcases step_event_cases hp hi h with ⟨-, rfl⟩ | ⟨-, -, rfl⟩ | ⟨-, -, hc⟩
  · simp at hout
  · simp at hout
  · exact hc.frame hout

theorem State.dst?_isSome (s : State) : s.dst?.isSome = s.dstPresent := by
  cases h : s.dstPresent <;> simp [State.dst?, h]

theorem State.src?_isSome (s : State) : s.src?.isSome = s.srcPresent := by
  cases h : s.srcPresent <;> simp [State.src?, h]

/-- Settles O36: in phase CHECKSUM the invariant gives both addresses or neither and the count of parameters, and the copy-out
gives each parameter's byte. -/
theorem emittedFrameShape : Obligations.EmittedFrameShape := by
  unfold Obligations.EmittedFrameShape
  intro s t e rest f hinv hp hi h hout
  obtain ⟨hphase, hsum, ps, hread, rfl⟩ := step_event_frame hp hi h hout
  obtain ⟨hcount, hbytes⟩ := Memory.readSeq_spec hread
  have hlen : s.paramsLen.toNat + 1 = s.remainingLength.toNat := by
    simpa only [State.LengthsFit, hphase] using hinv.lengths
  have hpres : s.dstPresent = s.srcPresent := by simpa only [State.PresenceFits, hphase] using hinv.presence
  have haddr : (s.present e rest).consume.dst?.isSome = (s.present e rest).consume.src?.isSome :=
    (State.dst?_isSome _).trans (hpres.trans (State.src?_isSome _).symm)
  exact ⟨haddr, hcount ▸ hlen, fun a ha => (hbytes a (hcount ▸ ha)).symm, rfl, hsum, rfl, rfl⟩

end Sys2Proof.Machine
end

section
/-! PROOFS. The phase and the accumulator (10_state.md R22, R31, R39): the next-state function (O24), when a byte is added (O25),
and the sum of a frame's bytes (O39). -/

namespace Sys2Proof.Machine

/-- Settles O24: a gated event leaves the phase, and each case of a consumed event is a row of the table. -/
theorem nextPhaseTable : Obligations.NextPhaseTable := by
  unfold Obligations.NextPhaseTable
  intro s t e rest hp hi h
  rcases step_event_cases hp hi h with ⟨hskip, rfl⟩ | ⟨hskip, herr, rfl⟩ | ⟨hskip, herr, hc⟩
  · simp [hskip]
  · simp [herr]
  · simp only [hskip, herr, ne_eq, not_true_eq_false, Bool.false_eq_true, or_self, if_false]
    cases hc with
    | fmtCompact hphase hmode => simp [show s.phase = .format from hphase, hmode]
    | fmtUnsup hphase hmode => simp [show s.phase = .format from hphase, hmode]
    | fmtAddr hphase hmode =>
      simp [show s.phase = .format from hphase, show e.byte.toNat / 64 ≠ 0 by omega, show e.byte.toNat / 64 ≠ 1 by omega]
    | dst hphase => rw [show s.phase = .dstAddr from hphase]; rfl
    | src hphase => rw [show s.phase = .srcAddr from hphase]; rfl
    | lenZero hphase hzero => simp [show s.phase = .length from hphase, hzero]
    | len hphase hpos => simp [show s.phase = .length from hphase, hpos]
    | sid hphase => rw [show s.phase = .serviceId from hphase]; rfl
    | param hphase => rw [show s.phase = .params from hphase]; rfl
    | cksMatch ps hphase | cksMismatch hphase => rw [show s.phase = .checksum from hphase]; rfl

/-- The output of a consumed event, and what it leaves in the accumulator (R31, R82): a step that gives Nothing adds the byte
and is not that of a checksum byte, and one that emits leaves zero. -/
theorem State.Consumed.output_sum {b : Byte} {s t : State} (h : s.Consumed b t) :
    (t.outputs = s.outputs ++ [.nothing] ∧ s.phase ≠ .checksum ∧
      t.runningChecksum = (if s.phase = .format then 0#8 else s.runningChecksum) + b) ∨
    ∃ o, o ≠ .nothing ∧ t.outputs = s.outputs ++ [o] ∧ t.runningChecksum = 0#8 := by
  cases h with
  | fmtCompact hphase | fmtAddr hphase | dst hphase | src hphase | len hphase | sid hphase | param hphase =>
    exact .inl (by simp [hphase])
  | fmtUnsup | lenZero | cksMatch | cksMismatch => exact .inr ⟨_, Output.noConfusion, rfl, rfl⟩

/-- The step of a consumed event gives Nothing and adds its byte, or emits and leaves the accumulator zero (R31). -/
theorem step_output_sum {s t : State} {e : Event} {rest : List Event} (hp : s.probe = none) (hi : s.input = e :: rest)
    (hskip : s.skipRemaining = 0) (herr : e.err = false) (h : step s = .next t) :
    (t.outputs = s.outputs ++ [.nothing] ∧ s.phase ≠ .checksum ∧
      t.runningChecksum = (if s.phase = .format then 0#8 else s.runningChecksum) + e.byte) ∨
    ∃ o, o ≠ .nothing ∧ t.outputs = s.outputs ++ [o] ∧ t.runningChecksum = 0#8 := by
  rcases step_event_cases hp hi h with ⟨hne, -⟩ | ⟨-, hflag, -⟩ | ⟨-, -, hc⟩
  · exact absurd hskip hne
  · simp [herr] at hflag
  · exact hc.output_sum

/-- The step of a skipped or flagged event gives Nothing and leaves the accumulator (R31, R110, R111). -/
theorem step_gated_sum {s t : State} {e : Event} {rest : List Event} (hp : s.probe = none) (hi : s.input = e :: rest)
    (hgate : s.skipRemaining ≠ 0 ∨ e.err = true) (h : step s = .next t) :
    t.outputs = s.outputs ++ [.nothing] ∧ t.runningChecksum = s.runningChecksum := by
  rcases step_event_cases hp hi h with ⟨-, rfl⟩ | ⟨-, -, rfl⟩ | ⟨hskip, herr, -⟩
  · exact ⟨rfl, rfl⟩
  · exact ⟨rfl, rfl⟩
  · simp [hskip, herr] at hgate

/-- Settles O25: a gated event leaves the accumulator, and a consumed one adds its byte exactly when it gives Nothing. -/
theorem checksumAddedOnce : Obligations.ChecksumAddedOnce := by
  unfold Obligations.ChecksumAddedOnce
  intro s t e rest hp hi h
  by_cases hgate : s.skipRemaining ≠ 0 ∨ e.err = true
  · obtain ⟨hout, hsum⟩ := step_gated_sum hp hi hgate h
    refine ⟨fun _ => hsum, fun hskip herr => ?_, fun hne => absurd hout hne, fun hskip herr => ?_⟩ <;>
      simp [hskip, herr] at hgate
  · obtain ⟨hskip, herr⟩ : s.skipRemaining = 0 ∧ e.err = false := by simpa using hgate
    refine ⟨fun hg => absurd hg hgate, ?_⟩
    rcases step_output_sum hp hi hskip herr h with ⟨hout, hphase, hsum⟩ | ⟨o, ho, hout, hsum⟩
    · refine ⟨fun _ _ _ => ?_, fun hne => absurd hout hne, fun _ _ hck => absurd hck hphase⟩
      rw [hsum, BitVec.toNat_add, apply_ite BitVec.toNat]
      rfl
    · exact ⟨fun _ _ hno => by simp [hout, ho] at hno, fun _ => hsum, fun _ _ _ => hsum⟩

/-! ### The sum over a frame -/

theorem byteSum_append (bs cs : List Byte) : byteSum (bs ++ cs) = byteSum bs + byteSum cs := by
  simp [byteSum, BitVec.ofNat_add]

theorem byteSum_unflagged_cons (e : Event) (es : List Event) :
    byteSum (unflagged (e :: es)) = byteSum (unflagged [e]) + byteSum (unflagged es) := by
  rw [← byteSum_append, unflagged, unflagged, unflagged, ← List.map_append, ← List.filter_append, List.singleton_append]

theorem byteSum_unflagged_singleton (e : Event) : byteSum (unflagged [e]) = if e.err then 0#8 else e.byte := by
  cases h : e.err <;> simp [unflagged, byteSum, h]

/-- A step that gives Nothing, with nothing to skip, adds the byte of an unflagged event to the accumulator: in phase FORMAT,
where a format byte clears it first, the invariant says that it was empty (R31, R39). -/
theorem step_nothing_sum {s t : State} {e : Event} {rest : List Event} (hinv : s.Inv) (hp : s.probe = none)
    (hi : s.input = e :: rest) (hskip : s.skipRemaining = 0) (h : step s = .next t)
    (hout : t.outputs = s.outputs ++ [.nothing]) :
    t.runningChecksum = s.runningChecksum + byteSum (unflagged [e]) := by
  rw [byteSum_unflagged_singleton]
  cases herr : e.err with
  | true => simpa using (step_gated_sum hp hi (.inr herr) h).2
  | false =>
    rcases step_output_sum hp hi hskip herr h with ⟨-, -, hsum⟩ | ⟨o, ho, hout', -⟩
    · rw [hsum]
      split
      case isTrue hphase => rw [hinv.emptySum hphase]; rfl
      case isFalse => rfl
    · simp [hout', ho] at hout

/-- A step on an event leaves nothing to skip where nothing was (R34, R110). -/
theorem step_event_skipRemaining {s t : State} {e : Event} {rest : List Event} (hp : s.probe = none)
    (hi : s.input = e :: rest) (hskip : s.skipRemaining = 0) (h : step s = .next t) : t.skipRemaining = 0 := by
  rcases step_event_cases hp hi h with ⟨hne, -⟩ | ⟨-, -, rfl⟩ | ⟨-, -, hc⟩
  · exact absurd hskip hne
  · exact hskip
  · cases hc <;> exact hskip

/-- A run that gives nothing but Nothing is a first step that gives Nothing and a run from there that does. -/
theorem run_succ_nothing {s t : State} {e : Event} {es : List Event} (hp : s.probe = none)
    (hi : s.input = e :: es) {k : Nat} (hk : k ≤ es.length) (hrun : Host.Core.run Sys2Proof.core (k + 1) s = .next t)
    (hout : t.outputs = s.outputs ++ List.replicate (k + 1) .nothing) :
    ∃ u : State, step s = .next u ∧ u.input = es ∧ u.probe = none ∧ u.outputs = s.outputs ++ [.nothing] ∧
      Host.Core.run Sys2Proof.core k u = .next t ∧ t.outputs = u.outputs ++ List.replicate k .nothing := by
  obtain ⟨u, hstep, hrun⟩ := run_succ_next hrun
  obtain ⟨huinput, huprobe, o, huout⟩ := step_event_emits_one hp hi hstep
  obtain ⟨-, os, -, htout⟩ := runGivesOneOutputPerEvent k u t huprobe (huinput ▸ hk) hrun
  have hcons : o :: os = .nothing :: List.replicate k .nothing := by
    simpa [htout, huout, List.replicate_succ] using hout
  obtain ⟨rfl, rfl⟩ := List.cons.inj hcons
  exact ⟨u, hstep, huinput, huprobe, huout, hrun, htout⟩

/-- Over a run that gives nothing but Nothing the accumulator grows by the bytes that are not flagged (R39), by induction on
the events: each step adds its own. -/
theorem run_nothing_sum {es rest : List Event} {s t : State} (hinv : s.Inv) (hskip : s.skipRemaining = 0)
    (hp : s.probe = none) (hi : s.input = es ++ rest) (hrun : Host.Core.run Sys2Proof.core es.length s = .next t)
    (hout : t.outputs = s.outputs ++ List.replicate es.length .nothing) :
    t.probe = none ∧ t.runningChecksum = s.runningChecksum + byteSum (unflagged es) := by
  induction es generalizing s with
  | nil =>
    cases hrun
    exact ⟨hp, by simp [unflagged, byteSum]⟩
  | cons e es ih =>
    obtain ⟨u, hstep, huinput, huprobe, huout, hrun, hout⟩ := run_succ_nothing hp hi (by simp) hrun hout
    have hsum := step_nothing_sum hinv hp hi hskip hstep huout
    obtain ⟨htprobe, htsum⟩ := ih (step_event_inv hinv hp hi hstep) (step_event_skipRemaining hp hi hskip hstep) huprobe
      huinput hrun hout
    exact ⟨htprobe, by rw [htsum, hsum, byteSum_unflagged_cons e es, BitVec.add_assoc]⟩

/-- Settles O39: the run adds up its unflagged bytes from an empty accumulator, and a frame's checksum byte equals the
accumulator. -/
theorem checksumAccumulatesFrame : Obligations.ChecksumAccumulatesFrame := by
  unfold Obligations.ChecksumAccumulatesFrame
  intro s t es rest hinv hphase hskip hp hi hrun hout
  obtain ⟨htprobe, hsum⟩ := run_nothing_sum hinv hskip hp hi hrun hout
  rw [hinv.emptySum hphase, BitVec.zero_add] at hsum
  refine ⟨hsum, fun u f hstep hframe => ?_⟩
  cases htinput : t.input with
  | nil =>
    rw [step_idle htprobe htinput] at hstep
    cases hstep
    simp at hframe
  | cons e rest' =>
    obtain ⟨-, hbyte, ps, -, rfl⟩ := step_event_frame htprobe htinput hstep hframe
    exact hbyte.trans hsum

end Sys2Proof.Machine
end

section
/-! PROOFS. Which operations write each field of the decoder (10_state.md R22 to R34, O27). -/

namespace Sys2Proof.Machine

/-- Settles O27, an operation at a time: LEN, PARAM and CKS by what they can answer, the others by their one answer. -/
theorem fieldWriters : Obligations.FieldWriters := by
  unfold Obligations.FieldWriters
  intro i s t h
  cases i with
  | skip | buserr | sidnameNeg | sidnameTp | sidnameTbl => cases h; simp
  | fmtCompact | fmtUnsup | fmtAddr => cases h; simp [Instr.consumesEvent, Instr.clearsContext, Instr.beginsFrame]
  | dst | src | sid => cases h; simp [Instr.consumesEvent]
  | len b =>
    rcases execLen_next h with ⟨rfl, rfl⟩ | ⟨-, rfl⟩ <;> simp [Instr.consumesEvent, Instr.clearsContext]
  | param b =>
    obtain ⟨-, u, rfl, rfl⟩ := execParam_next h
    simpa [Instr.consumesEvent] using fun a ha => Memory.read_write_other s.params b ha
  | cks b =>
    rcases execCks_next h with ⟨-, ps, -, rfl⟩ | ⟨-, rfl⟩ <;> simp [Instr.consumesEvent, Instr.clearsContext]
  | illstate b => cases h

end Sys2Proof.Machine
end

section
/-! PROOFS. The values construction leaves open cannot be observed (10_state.md R42 to R44, O44): each register update keeps two
states in agreement, so does each operation in its own phase, and so does a step. -/

namespace Sys2Proof.Machine

/-! ### Register updates on two states that agree -/

section
variable {s s' : State}

theorem State.Agree.present (h : s.Agree s') (e : Event) (rest : List Event) : (s.present e rest).Agree (s'.present e rest) :=
  { h with input := rfl }

theorem State.Agree.clearProbe (h : s.Agree s') : State.Agree { s with probe := none } { s' with probe := none } :=
  { h with probe := rfl }

theorem State.Agree.emit (h : s.Agree s') (o : Output) : (s.emit o).Agree (s'.emit o) :=
  { h with outputs := congrArg (· ++ [o]) h.outputs }

theorem State.Agree.logLookup (h : s.Agree s') (b : Byte) (n : Name) : (s.logLookup b n).Agree (s'.logLookup b n) :=
  { h with lookups := congrArg (· ++ [Lookup.mk b n]) h.lookups }

theorem State.Agree.countSkip (h : s.Agree s') : s.countSkip.Agree s'.countSkip :=
  { h with skipRemaining := congrArg (· - 1) h.skipRemaining }

theorem State.Agree.cksAdd (h : s.Agree s') (b : Byte) : (s.cksAdd b).Agree (s'.cksAdd b) :=
  { h with runningChecksum := congrArg (· + b) h.runningChecksum }

/-- `end_time` is among the fields no output depends on. -/
theorem State.Agree.consume (h : s.Agree s') : s.consume.Agree s'.consume := { h with }

theorem State.Agree.setLength (h : s.Agree s') (v : Byte) : (s.setLength v).Agree (s'.setLength v) :=
  { h with remainingLength := fun _ => rfl }

theorem State.Agree.setDst (h : s.Agree s') (b : Byte) : (s.setDst b).Agree (s'.setDst b) := { h with dst := rfl }

theorem State.Agree.setSrc (h : s.Agree s') (b : Byte) : (s.setSrc b).Agree (s'.setSrc b) := { h with src := rfl }

theorem State.Agree.setServiceId (h : s.Agree s') (b : Byte) : (s.setServiceId b).Agree (s'.setServiceId b) :=
  { h with serviceId := fun _ => rfl }

/-- Entering a phase asks for agreement in what that phase can read. -/
theorem State.Agree.goto (h : s.Agree s') (p : Phase) (hlen : s.remainingLength = s'.remainingLength)
    (hstart : s.startTime = s'.startTime) (hsid : p = .params ∨ p = .checksum → s.serviceId = s'.serviceId) :
    (s.goto p).Agree (s'.goto p) :=
  { h with phase := rfl, remainingLength := fun _ => hlen, startTime := fun _ => hstart, serviceId := hsid }

/-- A format byte needs nothing from before but the time of its own event (R38). -/
theorem State.Agree.beginFrame (h : s.Agree s') (hstart : s.evStart = s'.evStart) : s.beginFrame.Agree s'.beginFrame :=
  { h with
    runningChecksum := rfl, paramsLen := rfl, slots := fun _ ha => absurd ha (Nat.not_lt_zero _), dst := rfl, src := rfl
    startTime := fun _ => hstart }

/-- The empty form hides the length, the start, the identifier, the addresses and the slots (R37). -/
theorem State.Agree.resetContext (h : s.Agree s') : s.resetContext.Agree s'.resetContext :=
  { h with
    phase := rfl, runningChecksum := rfl, paramsLen := rfl, slots := fun _ ha => absurd ha (Nat.not_lt_zero _)
    dst := rfl, src := rfl, remainingLength := fun hf => absurd rfl hf, startTime := fun hf => absurd rfl hf
    serviceId := nofun }

theorem State.Agree.raise (h : s.Agree s') (k : ErrorKind) (hstart : s.startTime = s'.startTime)
    (hend : s.evEnd = s'.evEnd) : (s.raise k).Agree (s'.raise k) := by
  rw [State.raise, State.raise, hstart, hend]
  exact (h.emit _).resetContext

/-- An append writes the same byte to the same slot of both buffers, and counts it. -/
theorem State.Agree.storeParam (h : s.Agree s') (b : Byte) (hslot : s.paramsLen.toNat < paramMax) :
    (s.storeParam b).Agree (s'.storeParam b) :=
  { h with
    paramsLen := congrArg (· + 1#8) h.paramsLen
    slots := by
      intro a ha
      rw [State.storeParam_paramsLen_toNat hslot] at ha
      rw [State.storeParam_params, State.storeParam_params, Memory.read_write, Memory.read_write, ← h.paramsLen]
      split
      case isTrue => rfl
      case isFalse hne => exact h.slots a (by omega) }

end

/-! ### Operations on two states that agree -/

/-- Two outcomes agree: they are next states that agree, or one and the same stop. -/
def OutcomesAgree : Host.Outcome State Fault Refusal → Host.Outcome State Fault Refusal → Prop
  | .next t, o => ∃ t', o = .next t' ∧ t.Agree t'
  | .fault r, o => o = .fault r
  | .refused r, o => o = .refused r

theorem OutcomesAgree.next {t t' : State} (h : t.Agree t') : OutcomesAgree (.next t) (.next t') := ⟨t', rfl, h⟩

/-- The phase after a header, whatever decides it, reads no service identifier. -/
theorem header_phase_not_body {c : Prop} [Decidable c] :
    ¬ ((if c then Phase.length else .serviceId) = .params ∨ (if c then Phase.length else .serviceId) = .checksum) := by
  split <;> decide

section
variable {s s' : State} (h : s.Agree s') (b : Byte)
include h

theorem execFormat_agree (hstart : s.evStart = s'.evStart) (hend : s.evEnd = s'.evEnd) :
    OutcomesAgree (exec (decodeFormatByte b) s) (exec (decodeFormatByte b) s') := by
  have hbegin := h.consume.beginFrame hstart
  rcases decodeFormatByte_cases b with ⟨-, hop, -⟩ | ⟨-, hop⟩ | ⟨-, hop, -⟩ <;> rw [hop]
  · exact .next ((((hbegin.setLength _).goto _ rfl hstart (absurd · header_phase_not_body)).cksAdd _).emit _)
  · exact .next (hbegin.raise _ hstart hend)
  · exact .next ((((hbegin.setLength _).goto .dstAddr rfl hstart nofun).cksAdd _).emit _)

theorem execDst_agree (hphase : s.phase = .dstAddr) : OutcomesAgree (execDst b s) (execDst b s') := by
  have hne : s.phase ≠ .format := by simp [hphase]
  exact .next ((((h.consume.setDst b).goto .srcAddr (h.remainingLength hne) (h.startTime hne) nofun).cksAdd b).emit _)

theorem execSrc_agree (hphase : s.phase = .srcAddr) : OutcomesAgree (execSrc b s) (execSrc b s') := by
  have hne : s.phase ≠ .format := by simp [hphase]
  have hneed : s.needLen = s'.needLen := congrArg (· == 0#8) (h.remainingLength hne)
  rw [execSrc, execSrc, hneed]
  exact .next ((((h.consume.setSrc b).goto _ (h.remainingLength hne) (h.startTime hne)
    (absurd · header_phase_not_body)).cksAdd b).emit _)

theorem execLen_agree (hphase : s.phase = .length) (hend : s.evEnd = s'.evEnd) :
    OutcomesAgree (execLen b s) (execLen b s') := by
  have hne : s.phase ≠ .format := by simp [hphase]
  have hset := h.consume.setLength b
  unfold execLen
  cases lenZero b with
  | true => exact .next (hset.raise _ (h.startTime hne) hend)
  | false => exact .next (((hset.goto .serviceId rfl (h.startTime hne) nofun).cksAdd b).emit _)

theorem execSid_agree (hphase : s.phase = .serviceId) : OutcomesAgree (execSid b s) (execSid b s') := by
  have hne : s.phase ≠ .format := by simp [hphase]
  have hnone : s.noParams = s'.noParams := congrArg (· == 1#8) (h.remainingLength hne)
  rw [execSid, execSid, hnone]
  exact .next ((((h.consume.setServiceId b).goto _ (h.remainingLength hne) (h.startTime hne) fun _ => rfl).cksAdd b).emit _)

theorem execParam_agree (hphase : s.phase = .params) : OutcomesAgree (execParam b s) (execParam b s') := by
  have hne : s.phase ≠ .format := by simp [hphase]
  by_cases hslot : s.paramsLen.toNat < paramMax
  · rw [execParam_of_lt hslot, execParam_of_lt (h.paramsLen ▸ hslot), h.paramsLen, h.remainingLength hne]
    have hstore := h.consume.storeParam b hslot
    exact .next (((hstore.goto _ (h.remainingLength hne) (h.startTime hne) fun _ => h.serviceId (.inl hphase)).cksAdd
      b).emit _)
  · have hfull := Nat.not_lt.mp hslot
    rw [execParam_of_le hfull, execParam_of_le (h.paramsLen ▸ hfull)]
    rfl

theorem execCks_agree (hphase : s.phase = .checksum) (hend : s.evEnd = s'.evEnd) :
    OutcomesAgree (execCks b s) (execCks b s') := by
  have hne : s.phase ≠ .format := by simp [hphase]
  have hsid := h.serviceId (.inr hphase)
  have hmatch : s.consume.cksMatch b = s'.consume.cksMatch b := congrArg (b == ·) h.runningChecksum
  have hread : s.params.readSeq s.paramsLen.toNat = s'.params.readSeq s'.paramsLen.toNat := by
    rw [← h.paramsLen]; exact Memory.readSeq_congr h.slots
  have hframe : ∀ ps, s.consume.decodedFrame b ps = s'.consume.decodedFrame b ps := by
    intro ps
    simp only [State.decodedFrame, h.consume.dst, h.consume.src, State.consume_serviceId, hsid, State.consume_startTime,
      h.startTime hne, State.consume_evEnd, hend]
  simp only [execCks, hmatch, State.consume_params, State.consume_paramsLen, hread, hframe, State.consume_serviceId, hsid]
  split
  · split
    · exact .next ((h.consume.logLookup _ _).emit _).resetContext
    · rfl
  · exact .next (h.consume.raise _ (h.startTime hne) hend)

/-- The operation a consumed byte selects in the phase of two states that agree. -/
theorem exec_decodeConsumed_agree (hstart : s.evStart = s'.evStart) (hend : s.evEnd = s'.evEnd) :
    OutcomesAgree (exec (decodeConsumed s.phase.code b) s) (exec (decodeConsumed s.phase.code b) s') := by
  cases hphase : s.phase with
  | format => exact execFormat_agree h b hstart hend
  | dstAddr => exact execDst_agree h b hphase
  | srcAddr => exact execSrc_agree h b hphase
  | length => exact execLen_agree h b hphase hend
  | serviceId => exact execSid_agree h b hphase
  | params => exact execParam_agree h b hphase
  | checksum => exact execCks_agree h b hphase hend

end

/-! ### A step from two states that agree -/

/-- The operation of a probe's word reads no field of the decoder (logs 4, 5). -/
theorem exec_probe_agree {s s' : State} (h : s.Agree s') (p : Probe) : OutcomesAgree (exec p.decode s) (exec p.decode s') := by
  cases p with
  | sid8 b =>
    simp only [Probe.decode, decodeSid8]
    split
    · exact .next (h.logLookup _ _)
    · split <;> exact .next (h.logLookup _ _)
  | phase7 b =>
    rw [Probe.decode_phase7]
    rfl

/-- Two states that agree take the same event or probe, and run the same operation on it. -/
theorem step_agree {s s' : State} (h : s.Agree s') : OutcomesAgree (step s) (step s') := by
  cases hp : s.probe with
  | some p =>
    rw [step, step, State.fetch_probe hp, State.fetch_probe (h.probe ▸ hp)]
    exact exec_probe_agree h.clearProbe p
  | none =>
    have hp' : s'.probe = none := h.probe ▸ hp
    cases hi : s.input with
    | nil =>
      rw [step_idle hp hi, step_idle hp' (h.input ▸ hi)]
      exact .next h
    | cons e rest =>
      have hpresent := h.present e rest
      have hskip : s.skipActive = s'.skipActive := congrArg (· != 0) h.skipRemaining
      rw [step_event hp hi, step_event hp' (h.input ▸ hi), ← hskip, ← h.phase, dispatchWord, decodeDispatch_mkDispatch]
      cases s.skipActive with
      | true => exact .next (hpresent.countSkip.emit _)
      | false =>
        cases e.err with
        | true => exact .next (hpresent.emit _)
        | false => exact exec_decodeConsumed_agree hpresent e.byte rfl rfl

/-- Settles O44: the step lemma for two states that agree, and the agreement of two constructions field by field. -/
theorem unwrittenValuesUnobservable : Obligations.UnwrittenValuesUnobservable := by
  unfold Obligations.UnwrittenValuesUnobservable
  refine ⟨fun s s' h => ?_, fun n es len dst src sid params t0 t1 t2 t3 => ?_⟩
  · have hstep := step_agree h
    cases hs : step s <;> rw [hs] at hstep <;> exact hstep
  · exact {
      phase := rfl, skipRemaining := rfl, input := rfl, outputs := rfl, lookups := rfl, probe := rfl
      runningChecksum := rfl, paramsLen := rfl, slots := fun _ ha => absurd ha (Nat.not_lt_zero _), dst := rfl, src := rfl
      remainingLength := fun hf => absurd rfl hf, startTime := fun hf => absurd rfl hf, serviceId := nofun }

end Sys2Proof.Machine
end

section
/-! PROOFS. The key of the Service Identifier Table (20_memory.md R59, 40_service_table.md R100, R102): it has bit 6 clear, and
it is the same for a request and its response (O30). -/

namespace Sys2Proof.Machine

/-- A request and its response have one key: the bit that tells them apart lies outside the key's mask. -/
theorem xor_responseBit_and_keyMask (b : Byte) : (b ^^^ 0x40#8) &&& 0xBF#8 = b &&& 0xBF#8 := by
  have hdisjoint : (0x40#8).toNat &&& (0xBF#8).toNat = 0 := by decide
  apply BitVec.eq_of_toNat_eq
  rw [BitVec.toNat_and, BitVec.toNat_xor, Nat.and_xor_distrib_right, hdisjoint, Nat.xor_zero, BitVec.toNat_and]

/-- No key has bit 6 set, so no row at such a key is ever read. -/
theorem and_keyMask_getLsbD_six (b : Byte) : (b &&& 0xBF#8).getLsbD 6 = false := by
  rw [BitVec.getLsbD_and, show (0xBF#8).getLsbD 6 = false from rfl, Bool.and_false]

/-- Settles O30: away from 0x7F the name depends on the byte through its key only, and the key drops bit 6. -/
theorem nameIgnoresResponseBit : Obligations.NameIgnoresResponseBit := by
  unfold Obligations.NameIgnoresResponseBit
  refine ⟨fun table b hb hflip => ?_, fun table other hagree b => ?_⟩
  · rw [sidNameIn_other table hflip, sidNameIn_other table hb, xor_responseBit_and_keyMask]
  · by_cases hb : b = 0x7F#8
    · rw [hb, sidNameIn_negative, sidNameIn_negative]
    · rw [sidNameIn_other table hb, sidNameIn_other other hb, hagree _ (and_keyMask_getLsbD_six b)]

end Sys2Proof.Machine
end

section
/-! PROOFS. The encoding (30_encoding.md R72, R85, R86): the bytes of an operation word name the word's operation, and an
operation and its word determine each other (O19, O20); what the decoder rejects (O22) and words it reads (O21). -/

namespace Sys2Proof

open Machine

/-! ### The bytes of a word -/

/-- The operation of a word of either format (R86). -/
def OpWord.instr : OpWord → Instr
  | .dispatch w => decodeDispatch w
  | .sid8 b => decodeSid8 b

/-- The high byte of a dispatch word is padded with three zero bits (log 21). -/
theorem high_reservedBits_of_pad (hi5 : BitVec 5) : (0#3 ++ hi5).extractLsb' 5 3 = 0#3 :=
  BitVec.extractLsb'_append_eq_left

/-- The low and the high byte of a dispatch word give the word back. -/
theorem dispatchWord_of_bytes (w : DispatchWord) :
    (0#3 ++ w.extractLsb' 8 5).extractLsb' 0 5 ++ w.extractLsb' 0 8 = w := by
  rw [BitVec.extractLsb'_append_eq_right, BitVec.extractLsb'_append_extractLsb'_eq_extractLsb' (by rfl)]
  exact BitVec.extractLsb'_eq_self

/-- The decoder reads a word's bytes as the word's operation. -/
theorem decode_bytes (w : OpWord) : decode w.bytes = .ok w.instr := by
  cases w with
  | dispatch w => rw [OpWord.bytes, decode, if_pos (high_reservedBits_of_pad _), dispatchWord_of_bytes]; rfl
  | sid8 b => rfl

/-- Two bytes whose three highest bits are zero are the bytes of a dispatch word. -/
theorem bytes_of_reservedBits {lo hi : Byte} (h : hi.extractLsb' 5 3 = 0#3) :
    (OpWord.dispatch (hi.extractLsb' 0 5 ++ lo)).bytes = [lo, hi] := by
  have hhi : 0#3 ++ hi.extractLsb' 0 5 = hi := by
    rw [← h, BitVec.extractLsb'_append_extractLsb'_eq_extractLsb' (by rfl)]
    exact BitVec.extractLsb'_eq_self
  rw [OpWord.bytes, BitVec.extractLsb'_append_eq_right, BitVec.extractLsb'_append_eq_left, hhi]

/-- What the decoder reads from some bytes is the operation of the word that has those bytes. -/
theorem word_of_decode {bs : List Byte} {i : Instr} (h : decode bs = .ok i) :
    ∃ w : OpWord, w.bytes = bs ∧ w.instr = i := by
  unfold decode at h
  split at h
  case h_2 b => cases h; exact ⟨.sid8 b, rfl, rfl⟩
  case h_3 lo hi =>
    split at h
    case isTrue hres => cases h; exact ⟨_, bytes_of_reservedBits hres, rfl⟩
    case isFalse => cases h
  all_goals cases h

/-! ### The operation of an operation's word -/

theorem instr_consumedWord (phase : BitVec 3) (b : Byte) : (consumedWord phase b).instr = decodeConsumed phase b :=
  decodeDispatch_mkDispatch false false phase b

theorem getLsbD_formatByte_mode (mode : BitVec 2) (len6 : BitVec 6) (k : Nat) :
    (formatByte mode len6).getLsbD (6 + k) = mode.getLsbD k := by
  rw [formatByte, BitVec.getLsbD_append, if_neg (by omega), Nat.add_sub_cancel_left]

/-- A format byte put together from its fields (R72, R73): the mode's high bit selects FMT_ADDR, and its low bit tells the
other two operations apart. -/
theorem decodeFormatByte_formatByte (mode : BitVec 2) (len6 : BitVec 6) :
    decodeFormatByte (formatByte mode len6) =
      if mode.getLsbD 1 then .fmtAddr (mode.extractLsb' 0 1) len6
      else if mode.getLsbD 0 then .fmtUnsup len6 else .fmtCompact len6 := by
  have hlen : (formatByte mode len6).extractLsb' 0 6 = len6 := BitVec.extractLsb'_append_eq_right
  have hmode : (formatByte mode len6).extractLsb' 6 1 = mode.extractLsb' 0 1 := by
    rw [formatByte, BitVec.extractLsb'_append_eq_ite, dif_neg (by omega)]
  rw [decodeFormatByte, hlen, hmode, getLsbD_formatByte_mode mode len6 1, getLsbD_formatByte_mode mode len6 0]

theorem decodeFormatByte_addr (mode : BitVec 1) (len6 : BitVec 6) :
    decodeFormatByte (1#1 ++ mode ++ len6) = .fmtAddr mode len6 := by
  have hhigh : (1#1 ++ mode).getLsbD 1 = true := by rw [BitVec.getLsbD_append]; rfl
  have hlow : (1#1 ++ mode).extractLsb' 0 1 = mode := BitVec.extractLsb'_append_eq_right
  exact (decodeFormatByte_formatByte (1#1 ++ mode) len6).trans (by rw [if_pos hhigh, hlow])

theorem decodeSid8_testerPresent (responseBit : BitVec 1) :
    decodeSid8 (0#1 ++ responseBit ++ 0x3E#6) = .sidnameTp responseBit := by
  rcases BitVec.eq_zero_or_eq_one responseBit with rfl | rfl <;> rfl

theorem decodeSid8_other {b : Byte} (hneg : b ≠ 0x7F#8) (htp : b &&& 0xBF#8 ≠ 0x3E#8) :
    decodeSid8 b = .sidnameTbl b := by
  rw [decodeSid8, if_neg hneg, if_neg htp]

/-- The word of a well-formed operation names that operation, a case for each row (R86). -/
theorem instr_encodeWord {i : Instr} (hwf : i.WellFormed) : (encodeWord i).instr = i := by
  cases i with
  | skip err phase b => exact decodeDispatch_mkDispatch true err phase b
  | buserr phase b => exact decodeDispatch_mkDispatch false true phase b
  | fmtCompact len6 => exact (instr_consumedWord 0#3 _).trans (decodeFormatByte_formatByte 0b00#2 len6)
  | fmtUnsup len6 => exact (instr_consumedWord 0#3 _).trans (decodeFormatByte_formatByte 0b01#2 len6)
  | fmtAddr mode len6 => exact (instr_consumedWord 0#3 _).trans (decodeFormatByte_addr mode len6)
  | dst | src | len | sid | param | cks | illstate => exact instr_consumedWord _ _
  | sidnameNeg => rfl
  | sidnameTp responseBit => exact decodeSid8_testerPresent responseBit
  | sidnameTbl b =>
    obtain ⟨hneg, htp⟩ : b ≠ 0x7F#8 ∧ b &&& 0xBF#8 ≠ 0x3E#8 := by
      simpa [Instr.WellFormed, Instr.wellFormed] using hwf
    exact decodeSid8_other hneg htp

/-- Settles O19: the bytes of the operation's word name the word's operation, which is the operation itself. -/
theorem decodeOfEncode : Obligations.DecodeOfEncode := by
  unfold Obligations.DecodeOfEncode
  intro i hwf
  rw [encode, decode_bytes, instr_encodeWord hwf]

/-! ### The word of a word's operation -/

/-- Every dispatch word is put together from a skip bit, a flag, a phase code and a byte (R85). -/
theorem exists_mkDispatch (w : DispatchWord) : ∃ (skip err : Bool) (phase : BitVec 3) (b : Byte),
    w = mkDispatch (BitVec.ofBool skip) (BitVec.ofBool err) phase b := by
  refine ⟨w.getLsbD 12, w.getLsbD 11, w.extractLsb' 8 3, w.extractLsb' 0 8, BitVec.eq_of_getLsbD_eq fun k hk => ?_⟩
  rw [getLsbD_mkDispatch]
  interval_cases k <;> simp

theorem encodeWord_decodeFormatByte (b : Byte) : encodeWord (decodeFormatByte b) = consumedWord 0#3 b := by
  rcases decodeFormatByte_cases b with ⟨-, hop, hbyte⟩ | ⟨hmode, hop⟩ | ⟨-, hop, hbyte⟩ <;> rw [hop]
  · exact congrArg (consumedWord 0#3) hbyte
  · have hbyte : formatByte 0b01#2 (b.extractLsb' 0 6) = b := by
      apply BitVec.eq_of_toNat_eq
      rw [formatByte_toNat, BitVec.extractLsb'_toNat, Nat.shiftRight_zero, BitVec.toNat_ofNat]
      omega
    exact congrArg (consumedWord 0#3) hbyte
  · exact congrArg (consumedWord 0#3) hbyte

theorem encodeWord_decodeConsumed (phase : BitVec 3) (b : Byte) :
    encodeWord (decodeConsumed phase b) = consumedWord phase b := by
  have hcode : phase = 0#3 ∨ phase = 1#3 ∨ phase = 2#3 ∨ phase = 3#3 ∨ phase = 4#3 ∨ phase = 5#3 ∨ phase = 6#3 ∨
      phase = 7#3 := by decide +revert
  rcases hcode with rfl | rfl | rfl | rfl | rfl | rfl | rfl | rfl
  · exact encodeWord_decodeFormatByte b
  all_goals rfl

theorem encodeWord_decodeDispatch (w : DispatchWord) : encodeWord (decodeDispatch w) = .dispatch w := by
  obtain ⟨skip, err, phase, b, rfl⟩ := exists_mkDispatch w
  rw [decodeDispatch_mkDispatch]
  cases skip with
  | true => rfl
  | false =>
    cases err with
    | true => rfl
    | false => exact encodeWord_decodeConsumed phase b

theorem wellFormed_decodeDispatch (w : DispatchWord) : (decodeDispatch w).WellFormed := by
  have hwidth := decodeDispatch_row_width w
  cases h : decodeDispatch w with
  | sidnameTbl => simp [h, Instr.row] at hwidth
  | _ => rfl

theorem testerPresent_word {b : Byte} (h : b &&& 0xBF#8 = 0x3E#8) : 0#1 ++ b.extractLsb' 6 1 ++ 0x3E#6 = b := by
  apply BitVec.eq_of_getLsbD_eq
  intro k hk
  have hbit := congrArg (BitVec.getLsbD · k) h
  simp only [BitVec.getLsbD_and, BitVec.getLsbD_append] at hbit ⊢
  interval_cases k <;> simp at hbit ⊢ <;> exact hbit

theorem encodeWord_decodeSid8 (b : Byte) : encodeWord (decodeSid8 b) = .sid8 b := by
  unfold decodeSid8
  split
  case isTrue h => rw [h]; rfl
  case isFalse =>
    split
    case isTrue h => exact congrArg OpWord.sid8 (testerPresent_word h)
    case isFalse => rfl

theorem wellFormed_decodeSid8 (b : Byte) : (decodeSid8 b).WellFormed := by
  unfold decodeSid8
  split
  case isTrue => rfl
  case isFalse hneg =>
    split
    case isTrue => rfl
    case isFalse htp => simp [Instr.WellFormed, Instr.wellFormed, hneg, htp]

/-- A word's operation is well formed and has that word (R86). -/
theorem encodeWord_instr (w : OpWord) : w.instr.WellFormed ∧ encodeWord w.instr = w := by
  cases w with
  | dispatch w => exact ⟨wellFormed_decodeDispatch w, encodeWord_decodeDispatch w⟩
  | sid8 b => exact ⟨wellFormed_decodeSid8 b, encodeWord_decodeSid8 b⟩

/-- Settles O20: the bytes are those of a word, and the word's operation has that word. -/
theorem encodeOfDecode : Obligations.EncodeOfDecode := by
  unfold Obligations.EncodeOfDecode
  intro bs i h
  obtain ⟨w, rfl, rfl⟩ := word_of_decode h
  obtain ⟨hwf, hword⟩ := encodeWord_instr w
  exact ⟨hwf, by rw [encode, hword]⟩

/-! ### What the decoder rejects, and words it reads -/

/-- The three highest bits of the high byte are zero exactly when two bytes have a value of 13 bits (R85). -/
theorem reservedBits_iff (lo hi : Byte) : hi.extractLsb' 5 3 = 0#3 ↔ lo.toNat + 256 * hi.toNat < 8192 := by
  rw [← BitVec.toNat_inj, BitVec.extractLsb'_toNat, Nat.shiftRight_eq_div_pow, BitVec.toNat_ofNat]
  have hlo := lo.isLt
  have hhi := hi.isLt
  omega

/-- Settles O22, by the number of bytes. -/
theorem decodeRejectsExactly : Obligations.DecodeRejectsExactly := by
  unfold Obligations.DecodeRejectsExactly
  intro bs
  match bs with
  | [] => simp [decode]
  | [b] => simp [decode]
  | [lo, hi] =>
    simp only [decode, reservedBits_iff lo hi]
    split <;> simp <;> omega
  | _ :: _ :: _ :: _ => simp [decode]

/-- Settles O21: the decoder evaluated on each word. -/
theorem knownWordsDecode : Obligations.KnownWordsDecode := by
  unfold Obligations.KnownWordsDecode
  exact ⟨rfl, rfl, rfl, rfl, rfl, rfl, rfl, rfl, rfl, rfl⟩

end Sys2Proof
end

section
/-! PROOFS. The rows of opcode_table.json (30_encoding.md R86): no two DISPATCH13 rows cover one word, so the row of the
operation read is the only one, and of the SID8 rows it is the first (O18). -/

namespace Sys2Proof

/-- The word of every well-formed operation lies in the operation's row. -/
theorem Laws.EncodesRow.all (i : Instr) : Laws.EncodesRow.Statement i := by
  cases i with
  | skip err phase b => exact skip err phase b
  | buserr phase b => exact buserr phase b
  | fmtCompact len6 => exact fmtCompact len6
  | fmtUnsup len6 => exact fmtUnsup len6
  | fmtAddr mode len6 => exact fmtAddr mode len6
  | dst b => exact dst b
  | src b => exact src b
  | len b => exact len b
  | sid b => exact sid b
  | param b => exact param b
  | cks b => exact cks b
  | illstate b => exact illstate b
  | sidnameNeg => exact sidnameNeg
  | sidnameTp responseBit => exact sidnameTp responseBit
  | sidnameTbl b => exact sidnameTbl b

/-! ### The DISPATCH13 rows -/

/-- The row of an operation of a dispatch word is one of the twelve. -/
theorem Instr.row_mem_dispatchRows {i : Instr} (h : i.row.width = 13) : i.row ∈ dispatchRows := by
  cases i with
  | sidnameNeg | sidnameTp | sidnameTbl => simp [Instr.row] at h
  | _ => simp [dispatchRows, Instr.row]

/-- A word that two rows cover agrees with both patterns where both masks test it. -/
theorem OpRow.patterns_agree_of_covers {r r' : OpRow} {n : Nat} (h : r.covers n = true) (h' : r'.covers n = true) :
    r.pattern &&& r'.mask = r'.pattern &&& r.mask := by
  simp only [OpRow.covers, beq_iff_eq] at h h'
  rw [← h, ← h', Nat.land_assoc, Nat.land_assoc, Nat.land_comm r.mask]

/-- Any two of the twelve rows differ in a bit that both test (R86). -/
theorem dispatchRows_patterns_differ : ∀ r ∈ dispatchRows, ∀ r' ∈ dispatchRows,
    r.pattern &&& r'.mask = r'.pattern &&& r.mask → r = r' := by decide

theorem dispatchRows_nodup : dispatchRows.Nodup := by decide

theorem decodeDispatch_row_covers (w : DispatchWord) : (decodeDispatch w).row.covers w.toNat = true := by
  have hrow := (Laws.EncodesRow.all (decodeDispatch w) (wellFormed_decodeDispatch w)).1
  rwa [encodeWord_decodeDispatch] at hrow

/-- Exactly one of the twelve rows covers a dispatch word, and it is the row of the operation read (R86). -/
theorem dispatchRows_filter_covers (w : DispatchWord) :
    dispatchRows.filter (fun r => r.covers w.toNat) = [(decodeDispatch w).row] := by
  have hmem := Instr.row_mem_dispatchRows (Machine.decodeDispatch_row_width w)
  have hcovers := decodeDispatch_row_covers w
  have honly : ∀ r ∈ dispatchRows, r.covers w.toNat = (r == (decodeDispatch w).row) := by
    intro r hr
    rw [Bool.eq_iff_iff, beq_iff_eq]
    refine ⟨fun h => ?_, fun h => h ▸ hcovers⟩
    exact dispatchRows_patterns_differ r hr _ hmem (OpRow.patterns_agree_of_covers h hcovers)
  rw [List.filter_congr honly, List.filter_beq, List.count_eq_one_of_mem dispatchRows_nodup hmem]
  rfl

/-! ### The SID8 rows -/

theorem sidnameNeg_row_not_covers {b : Byte} (h : b ≠ 0x7F#8) : Instr.sidnameNeg.row.covers b.toNat = false := by
  refine OpRow.not_covers_of_bits b _ (by decide) ?_
  rwa [show BitVec.ofNat 8 Instr.sidnameNeg.row.mask = BitVec.allOnes 8 from rfl, BitVec.and_allOnes]

/-- The first of the three SID8 rows that covers a byte is the row of the operation read (R86). -/
theorem sid8Rows_find_covers (b : Byte) :
    [Instr.row .sidnameNeg, Instr.row (.sidnameTp 0#1), Instr.row (.sidnameTbl 0#8)].find? (fun r => r.covers b.toNat) =
      some (decodeSid8 b).row := by
  unfold decodeSid8
  split
  case isTrue hneg => rw [hneg]; rfl
  case isFalse hneg =>
    rw [List.find?_cons_of_neg (by simp [sidnameNeg_row_not_covers hneg])]
    split
    case isTrue htp =>
      exact List.find?_cons_of_pos (OpRow.covers_of_bits b (Instr.row (.sidnameTp 0#1)) (by decide) (by decide) htp)
    case isFalse htp =>
      have hnot := OpRow.not_covers_of_bits b (Instr.row (.sidnameTp 0#1)) (by decide) htp
      rw [List.find?_cons_of_neg (by simp [hnot])]
      exact List.find?_cons_of_pos (by simp [OpRow.covers, Instr.row])

/-- Settles O18: the one DISPATCH13 row that covers a word, and the first SID8 row that covers a byte. -/
theorem dispatchRowsPartition : Obligations.DispatchRowsPartition := by
  unfold Obligations.DispatchRowsPartition
  exact ⟨dispatchRows_filter_covers, sid8Rows_find_covers⟩

end Sys2Proof
end

section
/-! PROOFS. The operation of a step is the one that the decoder reads from the bytes of the event's dispatch word
(30_encoding.md R85 to R87, O17). -/

namespace Sys2Proof.Machine

/-- The two bytes of a dispatch word: the byte of the event, and the other three fields padded to eight bits (R85; log 21). -/
theorem bytes_mkDispatch (skip err : BitVec 1) (phase : BitVec 3) (b : Byte) :
    (OpWord.dispatch (mkDispatch skip err phase b)).bytes = [b, 0#3 ++ (skip ++ err ++ phase)] := by
  have hhigh : (mkDispatch skip err phase b).extractLsb' 8 5 = skip ++ err ++ phase := BitVec.extractLsb'_append_eq_left
  rw [OpWord.bytes, extractLsb'_byte_mkDispatch, hhigh]

/-- The high byte of an event's word as R85 weighs its fields: 16 for the skip bit, 8 for the flag, and the phase code. -/
theorem highByte_eq_weighted_fields (skip err : Bool) (p : Phase) :
    (0#3 ++ (BitVec.ofBool skip ++ BitVec.ofBool err ++ p.code) : BitVec 8) =
      BitVec.ofNat 8 ((if skip then 16 else 0) + (if err then 8 else 0) + p.code.toNat) := by
  cases skip <;> cases err <;> cases p <;> rfl

/-- The decoder reads the operation of a step from the two bytes of the event's dispatch word. -/
theorem decode_eventBytes (skip : Bool) (p : Phase) (e : Event) :
    decode [e.byte, BitVec.ofNat 8 ((if skip then 16 else 0) + (if e.err then 8 else 0) + p.code.toNat)] =
      .ok (decodeDispatch (dispatchWord skip p e)) := by
  rw [← highByte_eq_weighted_fields, ← bytes_mkDispatch, decode_bytes]
  rfl

/-- The decoder reads the operation of a phase 7 probe from the two bytes of the probe's word (R166; log 4). -/
theorem decode_phase7Bytes (b : Byte) : decode [b, 7#8] = .ok (Probe.phase7 b).decode := by
  have hread := decode_bytes (.dispatch (mkDispatch 0#1 0#1 7#3 b))
  rwa [bytes_mkDispatch] at hread

/-- A step on a probe runs the operation of the probe's word, with the probe gone (log 4). -/
theorem step_probe {s : State} {p : Probe} (hp : s.probe = some p) : step s = exec p.decode { s with probe := none } := by
  simp [step, State.fetch_probe hp]

/-- Settles O17: an event's word, the two words of a probe, and the idle step. -/
theorem stepRunsDecodedOperation : Obligations.StepRunsDecodedOperation := by
  unfold Obligations.StepRunsDecodedOperation
  refine ⟨fun s e rest hp hi => ⟨_, ?_, step_event hp hi⟩, fun s b hp => ⟨_, rfl, step_probe hp⟩,
    fun s b hp => ⟨_, decode_phase7Bytes b, step_probe hp⟩, fun s hp hi => step_idle hp hi⟩
  have hweight : (if s.skipActive then 16 else 0) = if s.skipRemaining = 0 then 0 else 16 := by simp [State.skipActive]
  have hread := decode_eventBytes s.skipActive s.phase e
  rw [hweight] at hread
  cases hphase : s.phase <;> rw [hphase] at hread <;> exact hread

end Sys2Proof.Machine
end

section
/-! PROOFS. A step is the listing of R87 (30_encoding.md R87, O23): the operation that each phase selects does what the
listing's branch for that phase does. -/

namespace Sys2Proof.Machine

/-! ### What an operation answers, its tests read on values -/

section
variable {b : Byte} {s : State}

theorem exec_decodeFormatByte_compact (hmode : b.toNat / 64 = 0) :
    exec (decodeFormatByte b) s =
      .next ((((s.consume.beginFrame.setLength (inlineLength (b.extractLsb' 0 6))).goto
        (if b.toNat % 64 = 0 then .length else .serviceId)).cksAdd b).emit .nothing) := by
  obtain ⟨-, hop, hbyte⟩ := (decodeFormatByte_cases b).resolve_right (by omega)
  simp only [hop, exec, execFmtCompact, hbyte, inlineZero_iff]

theorem exec_decodeFormatByte_unsup (hmode : b.toNat / 64 = 1) :
    exec (decodeFormatByte b) s = .next (s.consume.beginFrame.raise .unsupportedFormat) := by
  obtain ⟨-, hop⟩ := ((decodeFormatByte_cases b).resolve_left (by omega)).resolve_right (by omega)
  rw [hop]
  rfl

theorem exec_decodeFormatByte_addr (hmode : 2 ≤ b.toNat / 64) :
    exec (decodeFormatByte b) s =
      .next ((((s.consume.beginFrame.setLength (inlineLength (b.extractLsb' 0 6))).goto
        .dstAddr).cksAdd b).emit .nothing) := by
  obtain ⟨-, hop, hbyte⟩ := ((decodeFormatByte_cases b).resolve_left (by omega)).resolve_left (by omega)
  simp only [hop, exec, execFmtAddr, hbyte]

theorem execSrc_eq : execSrc b s = .next ((((s.consume.setSrc b).goto
    (if s.remainingLength.toNat = 0 then .length else .serviceId)).cksAdd b).emit .nothing) := by
  simp only [execSrc, State.needLen, beq_iff_eq, ← BitVec.toNat_inj, BitVec.toNat_ofNat, Nat.zero_mod]

theorem execLen_of_zero (hzero : b.toNat = 0) : execLen b s = .next ((s.consume.setLength b).raise .invalidLength) := by
  simp [execLen, lenZero, ← BitVec.toNat_inj, hzero]

theorem execLen_of_ne_zero (hpos : b.toNat ≠ 0) :
    execLen b s = .next ((((s.consume.setLength b).goto .serviceId).cksAdd b).emit .nothing) := by
  simp [execLen, lenZero, ← BitVec.toNat_inj, hpos]

theorem execSid_eq : execSid b s = .next ((((s.consume.setServiceId b).goto
    (if s.remainingLength.toNat = 1 then .checksum else .params)).cksAdd b).emit .nothing) := by
  simp only [execSid, State.noParams, beq_iff_eq, ← BitVec.toNat_inj, BitVec.toNat_ofNat, Nat.reducePow, Nat.reduceMod]

end

/-! ### The branches of the listing -/

section
variable (e : Event) (rest : List Event) (s : State)

/-- The FORMAT operations, by the mode field (R121 to R123). -/
theorem exec_decodeFormatByte_eq_feedFormat :
    exec (decodeFormatByte e.byte) (s.present e rest) = feedFormat e (s.present e rest).consume := by
  have hlen : inlineLength (e.byte.extractLsb' 0 6) = BitVec.ofNat 8 (e.byte.toNat % 64) := by
    rw [← inlineLength_toNat, BitVec.ofNat_toNat, BitVec.setWidth_eq]
  by_cases hcompact : e.byte.toNat / 64 = 0
  · rw [exec_decodeFormatByte_compact hcompact, hlen]
    exact (if_pos hcompact).symm
  · refine Eq.trans ?_ (if_neg hcompact).symm
    by_cases hunsup : e.byte.toNat / 64 = 1
    · rw [exec_decodeFormatByte_unsup hunsup]
      exact (if_pos hunsup).symm
    · rw [exec_decodeFormatByte_addr (by omega), hlen]
      exact (if_neg hunsup).symm

/-- PARAM (R141): the listing compares over the integers. -/
theorem execParam_eq_feedParams : execParam e.byte (s.present e rest) = feedParams e (s.present e rest).consume := by
  have hlast : s.paramsLen.toNat + 1 + 1 = s.remainingLength.toNat ↔
      (s.paramsLen.toNat : Int) + 1 = (s.remainingLength.toNat : Int) - 1 := by omega
  by_cases hfull : paramMax ≤ s.paramsLen.toNat
  · rw [execParam_of_le (s := s.present e rest) hfull]
    exact (if_pos hfull).symm
  · rw [execParam_of_lt (s := s.present e rest) (Nat.not_le.mp hfull)]
    refine Eq.trans ?_ (if_neg hfull).symm
    simp only [State.present_paramsLen, State.present_remainingLength, hlast]
    rfl

/-- CKS (R142): the frame on a match, or the fault of a slot without a value, and the error on a mismatch. -/
theorem execCks_eq_feedChecksum : execCks e.byte (s.present e rest) = feedChecksum e (s.present e rest).consume := by
  simp only [execCks, feedChecksum, State.cksMatch, beq_iff_eq]
  split
  · cases (s.present e rest).consume.params.readSeq (s.present e rest).consume.paramsLen.toNat <;> rfl
  · rfl

/-- The operation a consumed byte selects does what the listing does after its two tests (R87). -/
theorem exec_decodeConsumed_eq_feed (hskip : ¬ s.skipRemaining ≠ 0) (herr : ¬ e.err = true) :
    exec (decodeConsumed s.phase.code e.byte) (s.present e rest) = State.feed e (s.present e rest) := by
  have hskip' : ¬ (s.present e rest).skipRemaining ≠ 0 := hskip
  rw [State.feed, if_neg hskip', if_neg herr]
  simp only [State.present_phase]
  cases hphase : s.phase with
  | format => exact exec_decodeFormatByte_eq_feedFormat e rest s
  | dstAddr => rfl
  | srcAddr => exact execSrc_eq
  | length =>
    by_cases hzero : e.byte.toNat = 0
    · exact (execLen_of_zero hzero).trans (if_pos hzero).symm
    · exact (execLen_of_ne_zero hzero).trans (if_neg hzero).symm
  | serviceId => exact execSid_eq
  | params => exact execParam_eq_feedParams e rest s
  | checksum => exact execCks_eq_feedChecksum e rest s

end

/-- Settles O23: the skip test, the flag test, and the branch of the phase. -/
theorem stepIsFeedListing : Obligations.StepIsFeedListing := by
  unfold Obligations.StepIsFeedListing
  intro s e rest hp hi
  change step s = State.feed e (s.present e rest)
  have hactive : s.skipActive = true ↔ (s.present e rest).skipRemaining ≠ 0 := by simp [State.skipActive]
  rw [step_event hp hi, dispatchWord, decodeDispatch_mkDispatch]
  by_cases hskip : (s.present e rest).skipRemaining ≠ 0
  · rw [if_pos (hactive.mpr hskip), State.feed, if_pos hskip]
    rfl
  · rw [if_neg (mt hactive.mp hskip)]
    by_cases herr : e.err = true
    · rw [if_pos herr, State.feed, if_neg hskip, if_pos herr]
      rfl
    · rw [if_neg herr]
      exact exec_decodeConsumed_eq_feed e rest s hskip herr

end Sys2Proof.Machine
end

section
/-! PROOFS. Which step gives which output (30_encoding.md R82, R92, 60_exceptions.md R160, O26). -/

namespace Sys2Proof.Machine

/-- The output of a consumed byte: a frame and each of the three errors exactly in its own case, so Nothing in every other
(R82, R160). -/
theorem State.Consumed.output_kind {b : Byte} {s t : State} (h : s.Consumed b t) : ∃ o, t.outputs = s.outputs ++ [o] ∧
    ((∃ f, o = .frame f) ↔ s.phase = .checksum ∧ b = s.runningChecksum) ∧
    ((∃ d, o = .error d ∧ d.kind = .unsupportedFormat) ↔ s.phase = .format ∧ b.toNat / 64 = 1) ∧
    ((∃ d, o = .error d ∧ d.kind = .invalidLength) ↔ s.phase = .length ∧ b.toNat = 0) ∧
    ((∃ d, o = .error d ∧ d.kind = .invalidChecksum) ↔ s.phase = .checksum ∧ b ≠ s.runningChecksum) := by
  cases h with
  | fmtCompact hphase hmode => exact ⟨_, rfl, by simp [hphase, hmode]⟩
  | fmtAddr hphase hmode => exact ⟨_, rfl, by simp [hphase, show b.toNat / 64 ≠ 1 by omega]⟩
  | len hphase hpos => exact ⟨_, rfl, by simp [hphase, hpos]⟩
  | dst hphase | src hphase | sid hphase | param hphase => exact ⟨_, rfl, by simp [hphase]⟩
  | fmtUnsup hphase hmode => exact ⟨_, rfl, by simp [hphase, hmode]⟩
  | lenZero hphase hzero => exact ⟨_, rfl, by simp [hphase, hzero]⟩
  | cksMatch ps hphase hsum => exact ⟨_, rfl, by simp [hphase, hsum]⟩
  | cksMismatch hphase hsum => exact ⟨_, rfl, by simp [hphase, hsum]⟩

/-- Settles O26: a gated event gives Nothing, and a consumed one the output of its case. -/
theorem oneOutputPerEvent : Obligations.OneOutputPerEvent := by
  unfold Obligations.OneOutputPerEvent
  intro s t e rest hp hi h
  obtain ⟨hinput, hprobe, -⟩ := step_event_emits_one hp hi h
  refine ⟨hinput, hprobe, ?_⟩
  rcases step_event_cases hp hi h with ⟨hskip, rfl⟩ | ⟨-, herr, rfl⟩ | ⟨hskip, herr, hc⟩
  · exact ⟨.nothing, rfl, by simp [hskip]⟩
  · exact ⟨.nothing, rfl, by simp [herr]⟩
  · obtain ⟨o, hout, hkinds⟩ := hc.output_kind
    exact ⟨o, hout, by simpa [hskip, herr] using hkinds⟩

end Sys2Proof.Machine
end

section
/-! PROOFS. Every frame of the four layouts is decoded (30_encoding.md R74 to R76, R80, 43_body_phases.md R143, R144, O40):
the header, the service identifier, the parameters by induction, and the checksum byte, each fed from where the one before
ends. -/

namespace Sys2Proof.Machine

/-! ### Steps and runs that answer -/

/-- Each state of `State.Consumed` is what the operation of the phase and the byte answers. -/
theorem exec_of_consumed {b : Byte} {s t : State} (h : s.Consumed b t) :
    exec (decodeConsumed s.phase.code b) s = .next t := by
  cases h with
  | fmtCompact hphase hmode => rw [hphase]; exact exec_decodeFormatByte_compact hmode
  | fmtUnsup hphase hmode => rw [hphase]; exact exec_decodeFormatByte_unsup hmode
  | fmtAddr hphase hmode => rw [hphase]; exact exec_decodeFormatByte_addr hmode
  | dst hphase => rw [hphase]; rfl
  | src hphase => rw [hphase]; exact execSrc_eq
  | lenZero hphase hzero => rw [hphase]; exact execLen_of_zero hzero
  | len hphase hpos => rw [hphase]; exact execLen_of_ne_zero hpos
  | sid hphase => rw [hphase]; exact execSid_eq
  | param hphase hslot => rw [hphase]; exact execParam_of_lt hslot
  | cksMatch ps hphase hsum hread =>
    rw [hphase]
    change execCks b s = _
    simp [execCks, State.cksMatch, hsum, hread]
  | cksMismatch hphase hsum =>
    rw [hphase]
    change execCks b s = _
    simp [execCks, State.cksMatch, hsum]

/-- With nothing to skip and no flag, a step answers every state that the event's byte can give. -/
theorem step_of_consumed {s t : State} {e : Event} {rest : List Event} (hp : s.probe = none) (hi : s.input = e :: rest)
    (hskip : s.skipRemaining = 0) (herr : e.err = false) (h : (s.present e rest).Consumed e.byte t) : step s = .next t := by
  have hactive : s.skipActive = false := by simp [State.skipActive, hskip]
  rw [step_event hp hi, dispatchWord, decodeDispatch_mkDispatch, hactive, herr]
  exact exec_of_consumed h

theorem run_cons {s t : State} {e : Event} {es : List Event} (h : step s = .next t) :
    Host.Core.run Sys2Proof.core (e :: es).length s = Host.Core.run Sys2Proof.core es.length t := by
  have hcore : Sys2Proof.core.step s = .next t := h
  simp only [List.length_cons, Host.Core.run, hcore]

theorem run_append {s t : State} {es fs : List Event} (h : Host.Core.run Sys2Proof.core es.length s = .next t) :
    Host.Core.run Sys2Proof.core (es ++ fs).length s = Host.Core.run Sys2Proof.core fs.length t := by
  induction es generalizing s with
  | nil => cases h; rfl
  | cons e es ih =>
    obtain ⟨u, hstep, hrun⟩ := run_succ_next h
    exact (run_cons hstep).trans (ih hrun)

/-! ### Within a frame -/

/-- The decoder has consumed the bytes `bs` of a frame that began at `start`, and has given Nothing for each after the outputs
`os`; the events `es`, none of them flagged, are the frame's still to come, and the events `rest` follow. -/
structure State.Receiving (os : List Output) (rest : List Event) (start : Time) (bs : List Byte) (es : List Event)
    (s : State) : Prop where
  skipRemaining : s.skipRemaining = 0
  probe : s.probe = none
  input : s.input = es ++ rest
  unflagged : ∀ e ∈ es, e.err = false
  outputs : s.outputs = os ++ List.replicate bs.length .nothing
  startTime : s.startTime = start
  sum : s.runningChecksum = byteSum bs

section
variable {os : List Output} {rest es : List Event} {start : Time} {bs : List Byte} {e : Event} {s : State}

theorem State.Receiving.step_consumed {t : State} (h : s.Receiving os rest start bs (e :: es))
    (hc : (s.present e (es ++ rest)).Consumed e.byte t) : step s = .next t :=
  step_of_consumed h.probe h.input h.skipRemaining (h.unflagged e List.mem_cons_self) hc

theorem State.Receiving.present (h : s.Receiving os rest start bs (e :: es)) :
    (s.present e (es ++ rest)).Receiving os rest start bs es :=
  { h with input := rfl, unflagged := fun f hf => h.unflagged f (List.mem_cons_of_mem e hf) }

theorem State.Receiving.consume (h : s.Receiving os rest start bs es) : s.consume.Receiving os rest start bs es := { h with }

theorem State.Receiving.setLength (h : s.Receiving os rest start bs es) (v : Byte) :
    (s.setLength v).Receiving os rest start bs es := { h with }

theorem State.Receiving.setDst (h : s.Receiving os rest start bs es) (b : Byte) :
    (s.setDst b).Receiving os rest start bs es := { h with }

theorem State.Receiving.setSrc (h : s.Receiving os rest start bs es) (b : Byte) :
    (s.setSrc b).Receiving os rest start bs es := { h with }

theorem State.Receiving.setServiceId (h : s.Receiving os rest start bs es) (b : Byte) :
    (s.setServiceId b).Receiving os rest start bs es := { h with }

theorem State.Receiving.storeParam (h : s.Receiving os rest start bs es) (b : Byte) :
    (s.storeParam b).Receiving os rest start bs es := { h with }

/-- A format byte begins the frame at the time of its own event (R38). -/
theorem State.Receiving.beginFrame (h : s.Receiving os rest start [] es) :
    s.beginFrame.Receiving os rest s.evStart [] es :=
  { h with startTime := rfl, sum := rfl }

/-- The end of every operation that does not emit: one more byte in the sum, and one more Nothing (R31). -/
theorem State.Receiving.addByte (h : s.Receiving os rest start bs es) (p : Phase) (b : Byte) :
    (((s.goto p).cksAdd b).emit .nothing).Receiving os rest start (bs ++ [b]) es :=
  { h with
    outputs := by simp [h.outputs, List.replicate_succ']
    sum := by
      have hbyte : b = byteSum [b] := by simp [byteSum]
      rw [byteSum_append, ← hbyte, ← h.sum]
      rfl }

end

/-! ### The header -/

/-- The header is read but for a length byte, which is still to come where the length `len` is zero (R75). -/
structure State.HeaderRead (a : Option Addressing) (len : Nat) (s : State) : Prop where
  phase : s.phase = if len = 0 then .length else .serviceId
  remainingLength : s.remainingLength.toNat = len
  paramsLen : s.paramsLen = 0#8
  dst : s.dst? = a.map Addressing.dst
  src : s.src? = a.map Addressing.src

/-- The service identifier and the parameters `ps` of a frame of length `len` are read (R74, R143). -/
structure State.BodyRead (a : Option Addressing) (len : Nat) (sid : Byte) (ps : List Byte) (s : State) : Prop where
  phase : s.phase = if ps.length + 1 = len then .checksum else .params
  remainingLength : s.remainingLength.toNat = len
  paramsLen : s.paramsLen.toNat = ps.length
  slots : s.params.readSeq ps.length = some ps
  serviceId : s.serviceId = sid
  dst : s.dst? = a.map Addressing.dst
  src : s.src? = a.map Addressing.src

section
variable {os : List Output} {rest es : List Event} {start : Time} {bs : List Byte} {e : Event} {s : State}
  {a : Option Addressing} {len : Nat}

/-- The format byte of a compact frame (R121): no addresses, and the inline length. -/
theorem State.Receiving.step_compact (h : s.Receiving os rest start [] (e :: es)) (hphase : s.phase = .format)
    {len6 : BitVec 6} (hbyte : e.byte = 0b00#2 ++ len6) :
    ∃ t, step s = .next t ∧ t.Receiving os rest e.startTime [e.byte] es ∧ t.HeaderRead none len6.toNat := by
  have hvalue : e.byte.toNat = len6.toNat := by
    rw [hbyte]
    exact (formatByte_toNat 0b00#2 len6).trans (Nat.zero_add _)
  have hlow : e.byte.toNat % 64 = len6.toNat := by omega
  refine ⟨_, h.step_consumed (.fmtCompact hphase (by omega)), (h.present.consume.beginFrame.setLength _).addByte _ _, ?_⟩
  exact ⟨by rw [hlow]; rfl, (inlineLength_toNat _).trans hlow, rfl, rfl, rfl⟩

/-- The format byte of an addressed frame and its two address bytes (R123 to R125). -/
theorem State.Receiving.run_addressed {f d r : Event} {addr : Addressing} {len6 : BitVec 6}
    (h : s.Receiving os rest start [] (f :: d :: r :: es)) (hphase : s.phase = .format)
    (hf : f.byte = 1#1 ++ addr.modeLow ++ len6) (hd : d.byte = addr.dst) (hr : r.byte = addr.src) :
    ∃ t, Host.Core.run Sys2Proof.core [f, d, r].length s = .next t ∧
      t.Receiving os rest f.startTime [f.byte, d.byte, r.byte] es ∧ t.HeaderRead (some addr) len6.toNat := by
  have hvalue : f.byte.toNat = 64 * (1#1 ++ addr.modeLow).toNat + len6.toNat := by
    rw [hf]
    exact formatByte_toNat _ len6
  have hmode : 2 ≤ (1#1 ++ addr.modeLow).toNat := by
    rw [BitVec.toNat_append, ← Nat.shiftLeft_add_eq_or_of_lt addr.modeLow.isLt]
    exact Nat.le_add_right 2 _
  have hlow : f.byte.toNat % 64 = len6.toNat := by omega
  obtain ⟨s₁, hstep₁, h₁, hphase₁, hlen₁, hempty₁⟩ : ∃ t, step s = .next t ∧
      t.Receiving os rest f.startTime [f.byte] (d :: r :: es) ∧ t.phase = .dstAddr ∧
      t.remainingLength.toNat = len6.toNat ∧ t.paramsLen = 0#8 :=
    ⟨_, h.step_consumed (.fmtAddr hphase (by omega)), (h.present.consume.beginFrame.setLength _).addByte _ _, rfl,
      (inlineLength_toNat _).trans hlow, rfl⟩
  obtain ⟨s₂, hstep₂, h₂, hphase₂, hlen₂, hempty₂, hdst₂⟩ : ∃ t, step s₁ = .next t ∧
      t.Receiving os rest f.startTime [f.byte, d.byte] (r :: es) ∧ t.phase = .srcAddr ∧
      t.remainingLength.toNat = len6.toNat ∧ t.paramsLen = 0#8 ∧ t.dst? = some addr.dst :=
    ⟨_, h₁.step_consumed (.dst hphase₁), (h₁.present.consume.setDst _).addByte _ _, rfl, hlen₁, hempty₁,
      congrArg some hd⟩
  obtain ⟨s₃, hstep₃, h₃, hread₃⟩ : ∃ t, step s₂ = .next t ∧
      t.Receiving os rest f.startTime [f.byte, d.byte, r.byte] es ∧ t.HeaderRead (some addr) len6.toNat :=
    ⟨_, h₂.step_consumed (.src hphase₂), (h₂.present.consume.setSrc _).addByte _ _,
      ⟨by rw [← hlen₂]; rfl, hlen₂, hempty₂, hdst₂, congrArg some hr⟩⟩
  exact ⟨s₃, (run_cons hstep₁).trans ((run_cons hstep₂).trans (run_cons hstep₃)), h₃, hread₃⟩

/-- A length byte (R126): it gives the length that the format byte left open. -/
theorem State.Receiving.step_length (h : s.Receiving os rest start bs (e :: es)) (hread : s.HeaderRead a 0)
    (hpos : e.byte.toNat ≠ 0) :
    ∃ t, step s = .next t ∧ t.Receiving os rest start (bs ++ [e.byte]) es ∧ t.HeaderRead a e.byte.toNat :=
  ⟨_, h.step_consumed (.len hread.phase hpos), (h.present.consume.setLength _).addByte _ _,
    ⟨(if_neg hpos).symm, rfl, hread.paramsLen, hread.dst, hread.src⟩⟩

/-! ### The body -/

/-- The service identifier (R140). -/
theorem State.Receiving.step_serviceId (h : s.Receiving os rest start bs (e :: es)) (hread : s.HeaderRead a len)
    (hpos : len ≠ 0) :
    ∃ t, step s = .next t ∧ t.Receiving os rest start (bs ++ [e.byte]) es ∧ t.BodyRead a len e.byte [] := by
  have hphase : s.phase = .serviceId := hread.phase.trans (if_neg hpos)
  refine ⟨_, h.step_consumed (.sid hphase), (h.present.consume.setServiceId _).addByte _ _, ?_⟩
  exact {
    phase := by rw [← hread.remainingLength]; exact if_congr eq_comm rfl rfl
    remainingLength := hread.remainingLength
    paramsLen := congrArg BitVec.toNat hread.paramsLen
    slots := rfl, serviceId := rfl, dst := hread.dst, src := hread.src }

/-- The copy-out of the first slots and the next one, after a write to the next. -/
theorem Memory.readSeq_write_next {m : Memory} {n : Nat} {ps : List Byte} (b : Byte) (h : m.readSeq n = some ps) :
    (m.write n b).readSeq (n + 1) = some (ps ++ [b]) := by
  have hbelow : (m.write n b).readSeq n = some ps := by
    rw [← h]
    exact Memory.readSeq_congr fun k hk => Memory.read_write_other m b (Nat.ne_of_lt hk)
  simp [Memory.readSeq, hbelow, Memory.read_write_same]

/-- A parameter byte (R141): it goes to the slot after the last. -/
theorem State.Receiving.step_param {sid : Byte} {ps : List Byte} (h : s.Receiving os rest start bs (e :: es))
    (hread : s.BodyRead a len sid ps) (hmore : ps.length + 1 < len) :
    ∃ t, step s = .next t ∧ t.Receiving os rest start (bs ++ [e.byte]) es ∧
      t.BodyRead a len sid (ps ++ [e.byte]) := by
  have hphase : s.phase = .params := hread.phase.trans (if_neg (Nat.ne_of_lt hmore))
  have hslot : s.paramsLen.toNat < paramMax := by
    have hbyte := s.remainingLength.isLt
    rw [hread.remainingLength] at hbyte
    rw [hread.paramsLen, paramMax]
    omega
  refine ⟨_, h.step_consumed (.param hphase hslot), (h.present.consume.storeParam _).addByte _ _, ?_⟩
  exact {
    phase := by rw [List.length_append, ← hread.paramsLen, ← hread.remainingLength]; rfl
    remainingLength := hread.remainingLength
    paramsLen := by
      rw [List.length_append, ← hread.paramsLen]
      exact State.storeParam_paramsLen_toNat (b := e.byte) hslot
    slots := by
      have hwrite := Memory.readSeq_write_next e.byte hread.slots
      rw [← hread.paramsLen] at hwrite
      rw [List.length_append, ← hread.paramsLen]
      exact hwrite
    serviceId := hread.serviceId, dst := hread.dst, src := hread.src }

/-- The parameters of a frame, by induction on their events: each step stores one. -/
theorem State.Receiving.run_params {sid : Byte} {ps : List Byte} {ds : List Event}
    (h : s.Receiving os rest start bs (ds ++ es)) (hread : s.BodyRead a len sid ps)
    (hlen : ps.length + ds.length + 1 = len) :
    ∃ t, Host.Core.run Sys2Proof.core ds.length s = .next t ∧
      t.Receiving os rest start (bs ++ ds.map Event.byte) es ∧ t.BodyRead a len sid (ps ++ ds.map Event.byte) := by
  induction ds generalizing s bs ps with
  | nil => exact ⟨s, rfl, by simpa using h, by simpa using hread⟩
  | cons d ds ih =>
    rw [List.length_cons] at hlen
    obtain ⟨u, hstep, hu, hread⟩ := State.Receiving.step_param h hread (by omega)
    obtain ⟨t, hrun, ht, hread⟩ := ih hu hread (by simp; omega)
    exact ⟨t, (run_cons hstep).trans hrun, by simpa using ht, by simpa using hread⟩

/-- The checksum byte (R142): the frame, and the empty form. -/
theorem State.Receiving.step_checksum {sid : Byte} {ps : List Byte} (h : s.Receiving os rest start bs [e])
    (hread : s.BodyRead a len sid ps) (hfull : ps.length + 1 = len) (hsum : e.byte = byteSum bs) :
    ∃ t, step s = .next t ∧
      t.outputs = os ++ List.replicate bs.length .nothing ++ [.frame {
        dstAddr := a.map Addressing.dst
        srcAddr := a.map Addressing.src
        serviceId := sid
        serviceName := sidName sid
        params := ps
        checksumByte := byteSum bs
        startTime := start
        endTime := e.endTime }] ∧
      t.phase = .format ∧ t.input = rest ∧ t.skipRemaining = 0 ∧ t.probe = none := by
  have hphase : s.phase = .checksum := hread.phase.trans (if_pos hfull)
  have hslots : s.params.readSeq s.paramsLen.toNat = some ps := by rw [hread.paramsLen, hread.slots]
  refine ⟨_, h.step_consumed (.cksMatch ps hphase (hsum.trans h.sum.symm) hslots), ?_, rfl, rfl, h.skipRemaining, h.probe⟩
  change s.outputs ++ [.frame ⟨s.dst?, s.src?, s.serviceId, sidName s.serviceId, ps, e.byte, s.startTime, e.endTime⟩] = _
  rw [h.outputs, hread.dst, hread.src, hread.serviceId, h.startTime, hsum]

end

/-! ### The four layouts -/

/-- The format byte and the address bytes of a frame (R75). -/
def WireFrame.addressBytes (w : WireFrame) : List Byte :=
  match w.addressing with
  | none => [0b00#2 ++ w.len6]
  | some a => [1#1 ++ a.modeLow ++ w.len6, a.dst, a.src]

/-- The length byte, in the two layouts that have one (R75). -/
def WireFrame.lengthBytes (w : WireFrame) : List Byte := if w.explicitLength then [BitVec.ofNat 8 w.length] else []

theorem WireFrame.header_eq (w : WireFrame) : w.header = w.addressBytes ++ w.lengthBytes := by
  cases h : w.addressing <;> simp [WireFrame.header, WireFrame.addressBytes, WireFrame.lengthBytes, h]

theorem WireFrame.addressBytes_ne_nil (w : WireFrame) : w.addressBytes ≠ [] := by
  unfold WireFrame.addressBytes
  split <;> exact List.cons_ne_nil _ _

theorem WireFrame.header_ne_nil (w : WireFrame) : w.header ≠ [] := by
  rw [w.header_eq]
  exact List.append_ne_nil_of_left_ne_nil w.addressBytes_ne_nil _

theorem WireFrame.length_ne_zero (w : WireFrame) : w.length ≠ 0 := Nat.succ_ne_zero _

section
variable {os : List Output} {rest es : List Event} {start : Time} {bs : List Byte} {s : State} {w : WireFrame}

/-- The format byte and the address bytes of either kind of frame. -/
theorem State.Receiving.run_addressBytes {as : List Event} {first : Event}
    (h : s.Receiving os rest start [] (as ++ es)) (hphase : s.phase = .format)
    (hbytes : as.map Event.byte = w.addressBytes) (hfirst : as.head? = some first) :
    ∃ t, Host.Core.run Sys2Proof.core as.length s = .next t ∧
      t.Receiving os rest first.startTime w.addressBytes es ∧ t.HeaderRead w.addressing w.len6.toNat := by
  rw [← hbytes]
  cases haddr : w.addressing with
  | none =>
    rw [WireFrame.addressBytes, haddr] at hbytes
    obtain ⟨f, rfl, hf⟩ := List.map_eq_singleton_iff.mp hbytes
    cases hfirst
    obtain ⟨t, hstep, ht, hread⟩ := State.Receiving.step_compact h hphase hf
    exact ⟨t, run_cons hstep, ht, hread⟩
  | some a =>
    rw [WireFrame.addressBytes, haddr] at hbytes
    obtain ⟨f, ds, rfl, hf, hbytes⟩ := List.map_eq_cons_iff.mp hbytes
    obtain ⟨d, rs, rfl, hd, hbytes⟩ := List.map_eq_cons_iff.mp hbytes
    obtain ⟨r, rfl, hr⟩ := List.map_eq_singleton_iff.mp hbytes
    cases hfirst
    exact State.Receiving.run_addressed h hphase hf hd hr

/-- The length byte, or the inline length where there is none (R74). -/
theorem State.Receiving.run_lengthBytes {ls : List Event} (h : s.Receiving os rest start bs (ls ++ es))
    (hread : s.HeaderRead w.addressing w.len6.toNat) (hbytes : ls.map Event.byte = w.lengthBytes) (hw : w.Encodable) :
    ∃ t, Host.Core.run Sys2Proof.core ls.length s = .next t ∧
      t.Receiving os rest start (bs ++ w.lengthBytes) es ∧ t.HeaderRead w.addressing w.length := by
  rw [WireFrame.Encodable] at hw
  rw [WireFrame.len6] at hread
  rw [WireFrame.lengthBytes] at hbytes ⊢
  split at hw
  case isTrue hexplicit =>
    rw [if_pos hexplicit] at hread hbytes ⊢
    obtain ⟨l, rfl, hl⟩ := List.map_eq_singleton_iff.mp hbytes
    have hvalue : l.byte.toNat = w.length := by
      rw [hl, BitVec.toNat_ofNat, Nat.mod_eq_of_lt (by omega)]
    obtain ⟨t, hstep, ht, hread⟩ := State.Receiving.step_length h hread (hvalue ▸ w.length_ne_zero)
    exact ⟨t, run_cons hstep, hl ▸ ht, hvalue ▸ hread⟩
  case isFalse hinline =>
    rw [if_neg hinline] at hread hbytes ⊢
    obtain rfl := List.map_eq_nil_iff.mp hbytes
    rw [BitVec.toNat_ofNat, Nat.mod_eq_of_lt (by omega)] at hread
    exact ⟨s, rfl, by simpa using h, hread⟩

/-- The first event is the first of those that carry a nonempty part of the bytes. -/
theorem head?_append_of_map_byte {as ls : List Event} {bs : List Byte} (h : as.map Event.byte = bs) (hbs : bs ≠ []) :
    (as ++ ls).head? = as.head? := by
  refine List.head?_append_of_ne_nil as fun has => hbs ?_
  rw [← h, has, List.map_nil]

/-- The whole header of a frame (R75, R76). -/
theorem State.Receiving.run_header {hs : List Event} {first : Event} (h : s.Receiving os rest start [] (hs ++ es))
    (hphase : s.phase = .format) (hbytes : hs.map Event.byte = w.header) (hw : w.Encodable)
    (hfirst : hs.head? = some first) :
    ∃ t, Host.Core.run Sys2Proof.core hs.length s = .next t ∧
      t.Receiving os rest first.startTime w.header es ∧ t.HeaderRead w.addressing w.length := by
  rw [WireFrame.header_eq] at hbytes ⊢
  obtain ⟨as, ls, rfl, has, hls⟩ := List.map_eq_append_iff.mp hbytes
  rw [head?_append_of_map_byte has w.addressBytes_ne_nil] at hfirst
  rw [List.append_assoc] at h
  obtain ⟨u, hrun₁, hu, hread⟩ := h.run_addressBytes hphase has hfirst
  obtain ⟨t, hrun₂, ht, hread⟩ := hu.run_lengthBytes hread hls hw
  exact ⟨t, (run_append hrun₁).trans hrun₂, ht, hread⟩

/-- The whole frame: the header, the service identifier, the parameters and the checksum byte. -/
theorem State.Receiving.run_frame {hs ps : List Event} {d c first : Event}
    (h : s.Receiving os rest start [] (hs ++ d :: (ps ++ [c]))) (hphase : s.phase = .format) (hw : w.Encodable)
    (hhs : hs.map Event.byte = w.header) (hd : d.byte = w.serviceId) (hps : ps.map Event.byte = w.payload)
    (hc : c.byte = byteSum w.summed) (hfirst : hs.head? = some first) :
    ∃ t, Host.Core.run Sys2Proof.core (hs ++ d :: (ps ++ [c])).length s = .next t ∧
      t.outputs = os ++ List.replicate w.summed.length .nothing ++ [.frame {
        dstAddr := w.addressing.map Addressing.dst
        srcAddr := w.addressing.map Addressing.src
        serviceId := w.serviceId
        serviceName := sidName w.serviceId
        params := w.payload
        checksumByte := byteSum w.summed
        startTime := first.startTime
        endTime := c.endTime }] ∧
      t.phase = .format ∧ t.input = rest ∧ t.skipRemaining = 0 ∧ t.probe = none := by
  have hsummed : w.header ++ [w.serviceId] ++ w.payload = w.summed := by simp [WireFrame.summed]
  have hcount : ps.length + 1 = w.length := by rw [WireFrame.length, ← hps, List.length_map]
  obtain ⟨s₁, hrun₁, h₁, hheader⟩ := h.run_header hphase hhs hw hfirst
  obtain ⟨s₂, hstep₂, h₂, hbody⟩ := h₁.step_serviceId hheader w.length_ne_zero
  obtain ⟨s₃, hrun₃, h₃, hbody⟩ := h₂.run_params hbody (by simpa using hcount)
  rw [hd, hps, hsummed] at h₃
  rw [hd, hps, List.nil_append] at hbody
  obtain ⟨t, hstep₄, hframe⟩ := h₃.step_checksum hbody rfl hc
  exact ⟨t, (run_append hrun₁).trans ((run_cons hstep₂).trans ((run_append hrun₃).trans (run_cons hstep₄))), hframe⟩

end

/-- Settles O40: the frame's events cut at its parts, and fed to a decoder that has consumed none of them. -/
theorem wireFramesDecode : Obligations.WireFramesDecode := by
  unfold Obligations.WireFramesDecode
  intro w s es rest first last hw hinv hphase hskip hprobe hinput hbytes hunflagged hfirst hlast
  obtain ⟨bs, cs, rfl, hbs, hcs⟩ := List.map_eq_append_iff.mp hbytes
  obtain ⟨c, rfl, hc⟩ := List.map_eq_singleton_iff.mp hcs
  obtain rfl : c = last := by simpa using hlast
  have hcount : (bs ++ [c]).length - 1 = w.summed.length := by
    rw [← hbs, List.length_map, List.length_append, List.length_singleton, Nat.add_sub_cancel]
  obtain ⟨hs, ds, rfl, hhs, hds⟩ := List.map_eq_append_iff.mp hbs
  obtain ⟨d, ps, rfl, hd, hps⟩ := List.map_eq_cons_iff.mp hds
  have h : s.Receiving s.outputs rest s.startTime [] (hs ++ d :: ps ++ [c]) :=
    ⟨hskip, hprobe, hinput, hunflagged, (List.append_nil _).symm, rfl, hinv.emptySum hphase⟩
  rw [hcount]
  rw [List.append_assoc] at h hfirst ⊢
  rw [head?_append_of_map_byte hhs w.header_ne_nil] at hfirst
  exact h.run_frame hphase hw hhs hd hps hc hfirst

end Sys2Proof.Machine
end

section
/-! PROOFS. The name function of the Service Identifier Table (40_service_table.md R100, R101, R104, R106): what each SID8 row
answers (O14), that the row a byte selects evaluates `SidName` of the byte (O29), and that an event evaluates it for an emitted
frame only (O31). -/

namespace Sys2Proof.Machine

/-! ### The SID8 rows -/

/-- The byte of SIDNAME.TP with a given response bit, on values: 0x3E, or 0x7E with the bit set (R104 item 1). -/
theorem testerPresent_word_eq_ofNat (responseBit : BitVec 1) :
    0#1 ++ responseBit ++ 0x3E#6 = BitVec.ofNat 8 (0x3E + 64 * responseBit.toNat) := by
  rcases BitVec.eq_zero_or_eq_one responseBit with rfl | rfl <;> rfl

/-- Settles O14: each row only extends the lookup record, and the byte of SIDNAME.TP is read on values. -/
theorem nameRowsComplete : Obligations.NameRowsComplete := by
  unfold Obligations.NameRowsComplete
  refine fun s => ⟨rfl, fun responseBit => ?_, fun b => rfl⟩
  rw [← testerPresent_word_eq_ofNat]
  rfl

theorem sidName_negative : sidName 0x7F#8 = .negativeResponse := sidNameIn_negative sidTable

/-- Every byte with the key 0x3E has the one name that the spec fixes (R104 item 1). -/
theorem sidName_testerPresent {b : Byte} (hneg : b ≠ 0x7F#8) (htp : b &&& 0xBF#8 = 0x3E#8) :
    sidName b = .testerPresent := by
  rw [sidName, sidNameIn_other sidTable hneg, htp, sidTable_testerPresent, Option.getD_some]

/-- The SID8 row that a byte selects records the byte and its name (R100): the three rows are the three cases of `SidName`. -/
theorem exec_decodeSid8 (b : Byte) (s : State) : exec (decodeSid8 b) s = .next (s.logLookup b (sidName b)) := by
  by_cases hneg : b = 0x7F#8
  · rw [hneg, sidName_negative]
    rfl
  · by_cases htp : b &&& 0xBF#8 = 0x3E#8
    · have hrow : decodeSid8 b = .sidnameTp (b.extractLsb' 6 1) := by rw [decodeSid8, if_neg hneg, if_pos htp]
      rw [hrow, exec, execSidnameTp, testerPresent_word htp, sidName_testerPresent hneg htp]
    · rw [decodeSid8_other hneg htp, sidName, sidNameIn, if_neg hneg]
      rfl

/-- `SidName` as R100 lists it: 0x7F first, then the row at the key, then the fallback. -/
theorem sidName_eq_listing (b : Byte) : sidName b =
    if b = 0x7F#8 then .negativeResponse
    else match sidTable (b &&& 0xBF#8) with
      | none => .unknown
      | some n => n := by
  split
  case isTrue hneg => rw [hneg, sidName_negative]
  case isFalse hneg =>
    rw [sidName, sidNameIn_other sidTable hneg]
    cases sidTable (b &&& 0xBF#8) <;> rfl

/-- Settles O29: the selected row records `SidName` of the byte, and that is the listing of R100. -/
theorem sidRowsComputeSidName : Obligations.SidRowsComputeSidName := by
  unfold Obligations.SidRowsComputeSidName
  intro b s
  rw [exec_decodeSid8, sidName_eq_listing]
  rfl

/-! ### The evaluations in the step of an event -/

/-- From `s` to `t` one frame was emitted and the one evaluation on record is that of the stored identifier, whose result the
frame carries; or no frame was emitted and nothing was recorded (R106). -/
def State.LogsFrameName (s t : State) : Prop :=
  (∃ f, t.outputs = s.outputs ++ [.frame f] ∧ f.serviceId = s.serviceId ∧ f.serviceName = sidName s.serviceId ∧
    t.lookups = s.lookups ++ [⟨s.serviceId, sidName s.serviceId⟩]) ∨
  ((∀ f, t.outputs ≠ s.outputs ++ [.frame f]) ∧ t.lookups = s.lookups)

/-- Of the operations on a consumed byte only CKS on a match evaluates the name, and only it emits a frame. -/
theorem State.Consumed.logsFrameName {b : Byte} {s t : State} (h : s.Consumed b t) : s.LogsFrameName t := by
  cases h with
  | cksMatch ps => exact .inl ⟨s.consume.decodedFrame b ps, rfl, rfl, rfl, rfl⟩
  | fmtCompact | fmtUnsup | fmtAddr | dst | src | lenZero | len | sid | param | cksMismatch => exact .inr ⟨by simp, rfl⟩

/-- A skipped or flagged event emits no frame and records nothing. -/
theorem step_event_logsFrameName {s t : State} {e : Event} {rest : List Event} (hp : s.probe = none)
    (hi : s.input = e :: rest) (h : step s = .next t) : s.LogsFrameName t := by
  rcases step_event_cases hp hi h with ⟨-, rfl⟩ | ⟨-, -, rfl⟩ | ⟨-, -, hc⟩
  · exact .inr ⟨by simp, rfl⟩
  · exact .inr ⟨by simp, rfl⟩
  · exact hc.logsFrameName

/-- Settles O31: a step on an event gives one output, so the frame it emits is the one whose name is on record. -/
theorem nameEvaluatedOncePerFrame : Obligations.NameEvaluatedOncePerFrame := by
  unfold Obligations.NameEvaluatedOncePerFrame
  intro s t e rest hp hi h
  rcases step_event_logsFrameName hp hi h with ⟨f, hout, hframe⟩ | ⟨hnone, hsame⟩
  · refine ⟨fun g hg => ?_, fun hnone => absurd hout (hnone f)⟩
    obtain rfl : f = g := by simpa using hout.symm.trans hg
    exact hframe
  · exact ⟨fun f hout => absurd hout (hnone f), fun _ => hsame⟩

end Sys2Proof.Machine
end

section
/-! PROOFS. The step of an event that event gating takes away (41_event_gating.md R110, R111): a skipped event (O1) and a flagged
one (O2). -/

namespace Sys2Proof.Machine

section
variable {s : State} {e : Event} {rest : List Event}

/-- The skip bit stands before the flag and the phase in the dispatch word, so neither is read (R85, R110, D9). -/
theorem step_skipped (hp : s.probe = none) (hi : s.input = e :: rest) (hskip : s.skipRemaining ≠ 0) :
    step s = .next ((s.present e rest).countSkip.emit .nothing) := by
  have hactive : s.skipActive = true := by simpa [State.skipActive] using hskip
  rw [step_event hp hi, dispatchWord, decodeDispatch_mkDispatch, if_pos hactive]
  rfl

/-- With nothing to skip the flag decides before the phase (R85, R111). -/
theorem step_flagged (hp : s.probe = none) (hi : s.input = e :: rest) (hskip : s.skipRemaining = 0)
    (herr : e.err = true) : step s = .next ((s.present e rest).emit .nothing) := by
  have hactive : ¬ s.skipActive = true := by simp [State.skipActive, hskip]
  rw [step_event hp hi, dispatchWord, decodeDispatch_mkDispatch, if_neg hactive, if_pos herr]
  rfl

end

/-- Settles O1: SKIP counts and gives Nothing, and a step with the counter not zero selects it. -/
theorem skipDiscardsEvent : Obligations.SkipDiscardsEvent := by
  unfold Obligations.SkipDiscardsEvent
  exact ⟨fun _ _ _ _ _ => rfl, fun _ _ _ hp hi hskip => step_skipped hp hi hskip⟩

/-- Settles O2: BUSERR only gives Nothing, and a step on a flagged event that is not skipped selects it. -/
theorem busErrorEventIgnored : Obligations.BusErrorEventIgnored := by
  unfold Obligations.BusErrorEventIgnored
  exact ⟨fun _ _ _ => rfl, fun _ _ _ hp hi hskip herr => step_flagged hp hi hskip herr⟩

end Sys2Proof.Machine
end

section
/-! PROOFS. Isolation over a run (41_event_gating.md R111, R113, 43_body_phases.md R145): no operation reads the stream, the
outputs or the times of an earlier event, so two states that differ in these alone answer an event alike; a skipped or flagged
event makes them differ in no more. From this, skip isolation (O41) and error-byte isolation (O42). -/

namespace Sys2Proof.Machine

/-! ### A step in two states of one decoder -/

/-- The two states hold the same decoder: they differ at most in the stream, in the outputs so far and in the times of the last
event, the model's own fields (logs 1 to 3). -/
def State.SameDecoder (s u : State) : Prop :=
  { s with input := u.input, outputs := u.outputs, evStart := u.evStart, evEnd := u.evEnd } = u

/-- A consumed byte gives one output, and the same one with any other stream and any other outputs so far. -/
theorem State.Consumed.replace_input_outputs {b : Byte} {s t : State} (h : s.Consumed b t) :
    ∃ o, t.outputs = s.outputs ++ [o] ∧ ∀ (es : List Event) (os : List Output),
      State.Consumed b { s with input := es, outputs := os } { t with input := es, outputs := os ++ [o] } := by
  cases h with
  | fmtCompact hphase hmode => exact ⟨_, rfl, fun _ _ => .fmtCompact hphase hmode⟩
  | fmtUnsup hphase hmode => exact ⟨_, rfl, fun _ _ => .fmtUnsup hphase hmode⟩
  | fmtAddr hphase hmode => exact ⟨_, rfl, fun _ _ => .fmtAddr hphase hmode⟩
  | dst hphase => exact ⟨_, rfl, fun _ _ => .dst hphase⟩
  | src hphase => exact ⟨_, rfl, fun _ _ => .src hphase⟩
  | lenZero hphase hzero => exact ⟨_, rfl, fun _ _ => .lenZero hphase hzero⟩
  | len hphase hpos => exact ⟨_, rfl, fun _ _ => .len hphase hpos⟩
  | sid hphase => exact ⟨_, rfl, fun _ _ => .sid hphase⟩
  | param hphase hslot => exact ⟨_, rfl, fun _ _ => .param hphase hslot⟩
  | cksMatch ps hphase hsum hread => exact ⟨_, rfl, fun _ _ => .cksMatch ps hphase hsum hread⟩
  | cksMismatch hphase hsum => exact ⟨_, rfl, fun _ _ => .cksMismatch hphase hsum⟩

section
variable {s t u v : State} {e : Event} {es rest rest' : List Event} (h : s.SameDecoder u)
include h

theorem State.SameDecoder.probe : s.probe = u.probe :=
  (congrArg State.probe h :)

theorem State.SameDecoder.skipRemaining : s.skipRemaining = u.skipRemaining :=
  (congrArg State.skipRemaining h :)

/-- Each takes the event from its own stream. -/
theorem State.SameDecoder.present : (s.present e rest).SameDecoder (u.present e rest') := congrArg (State.present e rest') h

theorem State.SameDecoder.countSkip : s.countSkip.SameDecoder u.countSkip := congrArg State.countSkip h

theorem State.SameDecoder.emit (o : Output) : (s.emit o).SameDecoder (u.emit o) := congrArg (State.emit o) h

/-- A flagged event leaves the decoder as it was (R111). -/
theorem State.SameDecoder.ignored : ((s.present e rest).emit .nothing).SameDecoder u := h

/-- With one stream, only the outputs and the times of the last event are left to differ. -/
theorem State.SameDecoder.eq_of_input (hi : s.input = u.input) :
    { s with outputs := u.outputs, evStart := u.evStart, evEnd := u.evEnd } = u := by
  rw [State.SameDecoder, ← hi] at h
  exact h

/-- The same event gives the same output in both states, and again one decoder. -/
theorem State.SameDecoder.step_event (hp : s.probe = none) (his : s.input = e :: rest) (hiu : u.input = e :: rest')
    (hstep : step s = .next t) :
    ∃ o v, step u = .next v ∧ t.SameDecoder v ∧ t.outputs = s.outputs ++ [o] ∧ v.outputs = u.outputs ++ [o] := by
  have hpu : u.probe = none := h.probe.symm.trans hp
  rcases step_event_cases hp his hstep with ⟨hskip, rfl⟩ | ⟨hskip, herr, rfl⟩ | ⟨hskip, herr, hc⟩
  · exact ⟨.nothing, _, step_skipped hpu hiu (h.skipRemaining ▸ hskip), h.present.countSkip.emit _, rfl, rfl⟩
  · exact ⟨.nothing, _, step_flagged hpu hiu (h.skipRemaining ▸ hskip) herr, h.present.emit _, rfl, rfl⟩
  · obtain ⟨o, hout, hreplace⟩ := hc.replace_input_outputs
    have hcu : (u.present e rest').Consumed e.byte { t with input := rest', outputs := u.outputs ++ [o] } := by
      rw [← h.present (rest := rest)]
      exact hreplace rest' u.outputs
    exact ⟨o, _, step_of_consumed hpu hiu (h.skipRemaining ▸ hskip) herr hcu, rfl, hout, rfl⟩

end

/-! ### A run answers -/

/-- In a state that meets the invariant every byte can be consumed: PARAM has a slot left, and the slots that CKS copies hold
their bytes (R29, R42, R165). -/
theorem State.Inv.exists_consumed {s : State} (hinv : s.Inv) (b : Byte) : ∃ t, s.Consumed b t := by
  cases hphase : s.phase with
  | format =>
    rcases decodeFormatByte_cases b with ⟨hmode, -⟩ | ⟨hmode, -⟩ | ⟨hmode, -⟩
    · exact ⟨_, .fmtCompact hphase hmode⟩
    · exact ⟨_, .fmtUnsup hphase hmode⟩
    · exact ⟨_, .fmtAddr hphase hmode⟩
  | dstAddr => exact ⟨_, .dst hphase⟩
  | srcAddr => exact ⟨_, .src hphase⟩
  | length =>
    by_cases hzero : b.toNat = 0
    · exact ⟨_, .lenZero hphase hzero⟩
    · exact ⟨_, .len hphase hzero⟩
  | serviceId => exact ⟨_, .sid hphase⟩
  | params =>
    have hroom : s.paramsLen.toNat + 1 < s.remainingLength.toNat := by
      simpa only [State.LengthsFit, hphase] using hinv.lengths
    have hslot : s.paramsLen.toNat < paramMax := by
      rw [paramMax]
      omega
    exact ⟨_, .param hphase hslot⟩
  | checksum =>
    by_cases hsum : b = s.runningChecksum
    · obtain ⟨ps, hread⟩ := Memory.readSeq_isSome _ _ hinv.slotsHeld
      exact ⟨_, .cksMatch ps hphase hsum hread⟩
    · exact ⟨_, .cksMismatch hphase hsum⟩

/-- Under the invariant the step of an event answers a next state (R165). -/
theorem step_event_answers {s : State} {e : Event} {rest : List Event} (hinv : s.Inv) (hp : s.probe = none)
    (hi : s.input = e :: rest) : ∃ t, step s = .next t := by
  by_cases hskip : s.skipRemaining = 0
  · cases herr : e.err with
    | true => exact ⟨_, step_flagged hp hi hskip herr⟩
    | false =>
      obtain ⟨t, hc⟩ := (hinv.present e rest).exists_consumed e.byte
      exact ⟨t, step_of_consumed hp hi hskip herr hc⟩
  · exact ⟨_, step_skipped hp hi hskip⟩

/-- Under the invariant a run over the first events of the stream answers. -/
theorem run_events_answer {s : State} {es rest : List Event} (hinv : s.Inv) (hp : s.probe = none)
    (hi : s.input = es ++ rest) : ∃ t : State, Host.Core.run Sys2Proof.core es.length s = .next t := by
  induction es generalizing s with
  | nil => exact ⟨s, rfl⟩
  | cons e es ih =>
    obtain ⟨u, hstep⟩ := step_event_answers hinv hp hi
    obtain ⟨huinput, huprobe, -⟩ := step_event_emits_one hp hi hstep
    rw [run_cons hstep]
    exact ih (step_event_inv hinv hp hi hstep) huprobe huinput

/-! ### Skip isolation -/

/-- A run over the events to be skipped counts the counter down to zero, gives as many times Nothing, and leaves the decoder as
it was (R110, R113), by induction on these events. -/
theorem run_skipped {s : State} {gs rest : List Event} (hp : s.probe = none) (hskip : s.skipRemaining = gs.length)
    (hi : s.input = gs ++ rest) : ∃ t₀ t₁, Host.Core.run Sys2Proof.core gs.length s = .next { s with
      skipRemaining := 0, input := rest, outputs := s.outputs ++ List.replicate gs.length .nothing
      evStart := t₀, evEnd := t₁ } := by
  induction gs generalizing s with
  | nil =>
    obtain rfl : s.input = rest := hi
    refine ⟨s.evStart, s.evEnd, ?_⟩
    rw [← show s.skipRemaining = 0 from hskip, List.length_nil, List.replicate_zero, List.append_nil]
    rfl
  | cons g gs ih =>
    have hstep := step_skipped hp hi (by simp [hskip])
    obtain ⟨t₀, t₁, hrun⟩ := ih (s := ((s.present g (gs ++ rest)).countSkip.emit .nothing)) hp (by simp [hskip]) rfl
    refine ⟨t₀, t₁, (run_cons hstep).trans (hrun.trans ?_)⟩
    simp [List.replicate_succ]

/-- After its skipped events a decoder is in the state of one constructed with nothing to skip (R113). -/
theorem run_skipped_init (gs rest : List Event) :
    ∃ m : State, Host.Core.run Sys2Proof.core gs.length { State.init gs.length with input := gs ++ rest } = .next m ∧
      m.Inv ∧ m.probe = none ∧ m.input = rest ∧ m.outputs = List.replicate gs.length .nothing ∧
      m.SameDecoder { State.init 0 with input := rest } := by
  obtain ⟨t₀, t₁, hrun⟩ := run_skipped (s := { State.init gs.length with input := gs ++ rest }) rfl rfl rfl
  exact ⟨_, hrun, { State.inv_init gs.length with }, rfl, rfl, rfl, rfl⟩

/-- Two states of one decoder on one stream run alike: what the outputs of one had before those of the other, they have still,
and the two end in one decoder on one stream. -/
theorem State.SameDecoder.run {s t u : State} {es rest : List Event} {pre : List Output} (h : s.SameDecoder u)
    (hp : s.probe = none) (his : s.input = es ++ rest) (hiu : u.input = es ++ rest) (hout : s.outputs = pre ++ u.outputs)
    (hrun : Host.Core.run Sys2Proof.core es.length s = .next t) :
    ∃ v : State, Host.Core.run Sys2Proof.core es.length u = .next v ∧ t.outputs = pre ++ v.outputs ∧ t.SameDecoder v ∧
      t.input = v.input := by
  induction es generalizing s u with
  | nil =>
    cases hrun
    exact ⟨u, rfl, hout, h, his.trans hiu.symm⟩
  | cons e es ih =>
    obtain ⟨s', hstep, hrun⟩ := run_succ_next hrun
    obtain ⟨o, u', hstep', h', hsout, huout⟩ := h.step_event hp his hiu hstep
    obtain ⟨hsinput, hsprobe, -⟩ := step_event_emits_one hp his hstep
    obtain ⟨huinput, -⟩ := step_event_emits_one (h.probe.symm.trans hp) hiu hstep'
    rw [run_cons hstep']
    exact ih h' hsprobe hsinput huinput (by rw [hsout, huout, hout, List.append_assoc]) hrun

/-- Settles O41: the run over the skipped events leaves the decoder as constructed, and from there the two decoders run alike. -/
theorem skipIsolation : Obligations.SkipIsolation := by
  unfold Obligations.SkipIsolation
  intro n k es hlen
  obtain ⟨gs, ds, rfl, rfl⟩ : ∃ gs ds, es = gs ++ ds ∧ gs.length = n :=
    ⟨es.take n, es.drop n, (List.take_append_drop n es).symm, List.length_take_of_le (by omega)⟩
  rw [List.length_append, Nat.add_le_add_iff_left] at hlen
  obtain ⟨fs, rest, rfl, rfl⟩ : ∃ fs rest, ds = fs ++ rest ∧ fs.length = k :=
    ⟨ds.take k, ds.drop k, (List.take_append_drop k ds).symm, List.length_take_of_le hlen⟩
  rw [List.drop_left, ← List.length_append]
  obtain ⟨m, hskipped, hinv, hp, hinput, hout, hsame⟩ := run_skipped_init gs (fs ++ rest)
  obtain ⟨t, hrun⟩ := run_events_answer hinv hp hinput
  obtain ⟨u, hrun', hout', hsame', hinput'⟩ := hsame.run hp hinput rfl (hout.trans (List.append_nil _).symm) hrun
  rw [run_append hskipped]
  exact ⟨t, u, hrun, hrun', hout', hsame'.eq_of_input hinput'⟩

/-! ### Error-byte isolation -/

/-- The run over a stream and the run over it without its flagged events, from two states of one decoder, emit alike and end in
one decoder (R111, R145), by induction on the stream: the second run has no step for a flagged event. -/
theorem State.SameDecoder.run_unflagged {s t u : State} {es : List Event} (h : s.SameDecoder u) (hp : s.probe = none)
    (hskip : s.skipRemaining = 0) (his : s.input = es) (hiu : u.input = es.filter fun e => !e.err)
    (hemits : s.outputs.filter Output.emits = u.outputs.filter Output.emits)
    (hrun : Host.Core.run Sys2Proof.core es.length s = .next t) :
    ∃ v : State, Host.Core.run Sys2Proof.core (es.filter fun e => !e.err).length u = .next v ∧
      t.outputs.filter Output.emits = v.outputs.filter Output.emits ∧ t.SameDecoder v ∧ t.input = v.input := by
  induction es generalizing s u with
  | nil =>
    cases hrun
    exact ⟨u, rfl, hemits, h, his.trans hiu.symm⟩
  | cons e es ih =>
    obtain ⟨s', hstep, hrun⟩ := run_succ_next hrun
    cases herr : e.err with
    | true =>
      rw [List.filter_cons_of_neg (by simp [herr])] at hiu ⊢
      rw [step_flagged hp his hskip herr] at hstep
      cases hstep
      have hemits' : (s.outputs ++ [Output.nothing]).filter Output.emits = u.outputs.filter Output.emits := by
        rw [List.filter_append, hemits]
        exact List.append_nil _
      exact ih h.ignored hp hskip rfl hiu hemits' hrun
    | false =>
      rw [List.filter_cons_of_pos (by simp [herr])] at hiu ⊢
      obtain ⟨o, u', hstep', h', hsout, huout⟩ := h.step_event hp his hiu hstep
      obtain ⟨hsinput, hsprobe, -⟩ := step_event_emits_one hp his hstep
      obtain ⟨huinput, -⟩ := step_event_emits_one (h.probe.symm.trans hp) hiu hstep'
      rw [run_cons hstep']
      exact ih h' hsprobe (step_event_skipRemaining hp his hskip hstep) hsinput huinput
        (by rw [hsout, huout, List.filter_append, List.filter_append, hemits]) hrun

/-- Settles O42: the two runs start in one decoder, with the same outputs. -/
theorem busErrorIsolation : Obligations.BusErrorIsolation := by
  unfold Obligations.BusErrorIsolation
  intro s t es hp hskip hrun
  obtain ⟨u, hrun', hemits, hsame, hinput⟩ := State.SameDecoder.run_unflagged
    (s := { s with input := es }) (u := { s with input := es.filter fun e => !e.err }) rfl hp hskip rfl rfl rfl hrun
  exact ⟨u, hrun', hemits, hsame.eq_of_input hinput⟩

end Sys2Proof.Machine
end

section
/-! PROOFS. The header operations (42_header_phases.md R120 to R126): what each answers on values (O3 to O9), and the end time
that every consumed event records (O28). -/

namespace Sys2Proof.Machine

/-! ### The operands and the sum as values -/

/-- The inline length is the six low bits read as a number (R72, R74). -/
theorem inlineLength_eq_ofNat (len6 : BitVec 6) : inlineLength len6 = BitVec.ofNat 8 len6.toNat :=
  (BitVec.ofNat_toNat 8 len6).symm

theorem inlineZero_iff_toNat (len6 : BitVec 6) : inlineZero len6 = true ↔ len6.toNat = 0 := by
  rw [inlineZero, beq_iff_eq, ← BitVec.toNat_inj, BitVec.toNat_ofNat, Nat.zero_mod]

/-- A format byte as a number (R72). -/
theorem formatByte_eq_ofNat (mode : BitVec 2) (len6 : BitVec 6) :
    formatByte mode len6 = BitVec.ofNat 8 (64 * mode.toNat + len6.toNat) := by
  rw [← formatByte_toNat, BitVec.ofNat_toNat, BitVec.setWidth_eq]

/-- The mode field of an addressed frame: bit 7 of the format byte is set, bit 6 is free (R73). -/
theorem addressedMode_toNat (mode : BitVec 1) : (1#1 ++ mode).toNat = 2 + mode.toNat := by
  rw [BitVec.toNat_append, ← Nat.shiftLeft_add_eq_or_of_lt mode.isLt]
  rfl

/-- CksAdd is the addition modulo 256 (R31). -/
theorem State.cksAdd_eq_ofNat (b : Byte) (s : State) :
    s.cksAdd b = { s with runningChecksum := BitVec.ofNat 8 (s.runningChecksum.toNat + b.toNat) } := by
  rw [State.cksAdd, BitVec.add_def]

/-- Added to the empty accumulator that BeginFrame leaves, a byte is the whole sum (R31, R38). -/
theorem State.cksAdd_of_empty {b : Byte} {s : State} (hempty : s.runningChecksum = 0#8) :
    s.cksAdd b = { s with runningChecksum := b } := by
  rw [State.cksAdd, hempty, BitVec.zero_add]

/-! ### The format byte -/

/-- Settles O3: BeginFrame empties the accumulator, so the byte `00LLLLLL` is the sum, and its value is the length. -/
theorem fmtCompactBeginsFrame : Obligations.FmtCompactBeginsFrame := by
  unfold Obligations.FmtCompactBeginsFrame
  intro len6 s
  have hbyte : formatByte 0b00#2 len6 = BitVec.ofNat 8 len6.toNat := by
    rw [formatByte_eq_ofNat, BitVec.toNat_ofNat, Nat.zero_mod, Nat.mul_zero, Nat.zero_add]
  simp only [exec, execFmtCompact, inlineZero_iff_toNat, inlineLength_eq_ofNat, hbyte]
  rw [State.cksAdd_of_empty rfl]
  rfl

/-- Settles O4: BeginFrame records the event's start, which the error then carries with the event's end. -/
theorem fmtUnsupRaises : Obligations.FmtUnsupRaises := by
  unfold Obligations.FmtUnsupRaises
  intro len6 s
  change Host.Outcome.next (s.consume.beginFrame.raise .unsupportedFormat) = _
  rfl

/-- Settles O5: as for a compact frame, with the mode bits in the sum and the phase DST_ADDR for every length. -/
theorem fmtAddrBeginsFrame : Obligations.FmtAddrBeginsFrame := by
  unfold Obligations.FmtAddrBeginsFrame
  intro mode len6 s
  have hbyte : formatByte (1#1 ++ mode) len6 = BitVec.ofNat 8 (128 + 64 * mode.toNat + len6.toNat) := by
    rw [formatByte_eq_ofNat, addressedMode_toNat, Nat.mul_add]
  simp only [exec, execFmtAddr, inlineLength_eq_ofNat, hbyte]
  rw [State.cksAdd_of_empty rfl]
  rfl

/-! ### The addresses -/

/-- Settles O6: the one answer of DST, with the sum as a value. -/
theorem dstStoresAddress : Obligations.DstStoresAddress := by
  unfold Obligations.DstStoresAddress
  intro b s
  refine ⟨_, rfl, ?_⟩
  rw [State.cksAdd_eq_ofNat]
  rfl

/-- Settles O7: the one answer of SRC, with the test of the length and the sum on values. -/
theorem srcStoresAddress : Obligations.SrcStoresAddress := by
  unfold Obligations.SrcStoresAddress
  intro b s
  refine ⟨_, execSrc_eq, ?_⟩
  rw [State.cksAdd_eq_ofNat]
  rfl

/-! ### The length byte -/

/-- Settles O8: a byte that is not zero passes the test, and is stored and added. -/
theorem lenStoresLength : Obligations.LenStoresLength := by
  unfold Obligations.LenStoresLength
  intro b s hpos
  refine (execLen_of_ne_zero hpos).trans ?_
  rw [State.cksAdd_eq_ofNat]
  rfl

/-- Settles O9: the length is written before the test, so the register holds the zero byte when the error is raised. -/
theorem lenZeroRaises : Obligations.LenZeroRaises := by
  unfold Obligations.LenZeroRaises
  intro b s hzero
  obtain rfl : b = 0#8 := BitVec.eq_of_toNat_eq hzero
  exact execLen_of_zero hzero

/-! ### The end time -/

/-- Settles O28, an operation at a time: after the preamble no operation writes the end time again; LEN, PARAM and CKS by what
they can answer, the others by their one answer. -/
theorem consumedEventRecordsEnd : Obligations.ConsumedEventRecordsEnd := by
  unfold Obligations.ConsumedEventRecordsEnd
  intro i s t h
  cases i with
  | skip | buserr | sidnameNeg | sidnameTp | sidnameTbl => cases h; rfl
  | fmtCompact | fmtUnsup | fmtAddr | dst | src | sid => cases h; rfl
  | len b => rcases execLen_next h with ⟨-, rfl⟩ | ⟨-, rfl⟩ <;> rfl
  | param b => obtain ⟨-, u, rfl, rfl⟩ := execParam_next h; rfl
  | cks b => rcases execCks_next h with ⟨-, ps, -, rfl⟩ | ⟨-, rfl⟩ <;> rfl
  | illstate b => cases h

end Sys2Proof.Machine
end

section
/-! PROOFS. The body operations (43_body_phases.md R140 to R142): what SID, PARAM and CKS answer on values (O10 to O13). -/

namespace Sys2Proof.Machine

/-! ### The service identifier -/

/-- Settles O10: the one answer of SID, with the test of the length and the sum on values. -/
theorem sidStoresIdentifier : Obligations.SidStoresIdentifier := by
  unfold Obligations.SidStoresIdentifier
  intro b s
  refine ⟨_, execSid_eq, ?_⟩
  rw [State.cksAdd_eq_ofNat]
  rfl

/-! ### A parameter byte -/

/-- The append to the buffer on values (R28, R141): the 8-bit count is the next number. -/
theorem State.storeParam_eq_ofNat (b : Byte) (s : State) : s.storeParam b =
    { s with params := s.params.write s.paramsLen.toNat b, paramsLen := BitVec.ofNat 8 (s.paramsLen.toNat + 1) } := by
  rw [State.storeParam, BitVec.add_def]
  rfl

/-- Settles O11: below slot 254 the append succeeds; the answer's buffer is the one write, whose reads are those of R52. -/
theorem paramAppendsByte : Obligations.ParamAppendsByte := by
  unfold Obligations.ParamAppendsByte
  intro b s hslot
  refine ⟨_, execParam_of_lt hslot, ?_, fun a => ?_⟩
  · rw [State.cksAdd_eq_ofNat, State.storeParam_eq_ofNat]
    rfl
  · exact Memory.read_write s.params s.paramsLen.toNat a b

/-! ### The checksum byte -/

/-- Slots that hold the bytes of a list are copied out as that list (R53). -/
theorem Memory.readSeq_of_reads {m : Memory} {ps : List Byte} (h : ∀ a, a < ps.length → m.read a = ps[a]?) :
    m.readSeq ps.length = some ps := by
  obtain ⟨bs, hbs⟩ := Memory.readSeq_isSome m ps.length fun a ha => by rw [h a ha, List.getElem?_eq_getElem ha]; rfl
  obtain ⟨hcount, hbytes⟩ := Memory.readSeq_spec hbs
  have hsame : bs = ps := List.ext_getElem?' fun a ha => by
    rw [hcount, max_self] at ha
    exact (hbytes a ha).symm.trans (h a ha)
  rw [hbs, hsame]

/-- CKS on a match (R142): the slots below `params_len` go into the frame, and the context is reset after it. -/
theorem execCks_of_match {s : State} {ps : List Byte} (hread : s.params.readSeq s.paramsLen.toNat = some ps) :
    execCks s.runningChecksum s = .next ((s.consume.logLookup s.serviceId (sidName s.serviceId)).emit
      (.frame (s.consume.decodedFrame s.runningChecksum ps))).resetContext := by
  simp [execCks, State.cksMatch, hread]

/-- CKS on a mismatch (R142): the buffer is not read. -/
theorem execCks_of_mismatch {b : Byte} {s : State} (hne : b ≠ s.runningChecksum) :
    execCks b s = .next (s.consume.raise .invalidChecksum) := by
  simp [execCks, State.cksMatch, hne]

/-- Settles O12: the slots read as the list `ps`, so the frame carries it, with the name that `SidName` gives (R100). -/
theorem cksMatchEmitsFrame : Obligations.CksMatchEmitsFrame := by
  unfold Obligations.CksMatchEmitsFrame
  rintro b s ps rfl hcount hslots
  have hread : s.params.readSeq s.paramsLen.toNat = some ps := hcount ▸ Memory.readSeq_of_reads hslots
  exact ⟨sidName s.serviceId, rfl, execCks_of_match hread⟩

/-- Settles O13: the two values differ, so the error is raised, from the recorded start to the end of this event. -/
theorem cksMismatchRaises : Obligations.CksMismatchRaises := by
  unfold Obligations.CksMismatchRaises
  intro b s hne
  exact execCks_of_mismatch hne

end Sys2Proof.Machine
end

section
/-! PROOFS. The stops of an operation, and the recovery after an emission (60_exceptions.md R165, R166, R170): which operation
stops and where (O16), that no event selects ILLSTATE (O15), that a step under the invariant answers (O35), and that the byte
after a frame or an error is a format byte (O37). -/

namespace Sys2Proof.Machine

/-! ### The three stops -/

/-- The copy-out fails exactly where one of its slots holds no value (R53, U8). -/
theorem Memory.readSeq_eq_none_iff {m : Memory} {n : Nat} : m.readSeq n = none ↔ ∃ a, a < n ∧ m.read a = none := by
  constructor
  · intro hnone
    by_contra hheld
    obtain ⟨bs, hbs⟩ := Memory.readSeq_isSome m n fun a ha =>
      Option.isSome_iff_ne_none.mpr fun hunwritten => hheld ⟨a, ha, hunwritten⟩
    simp [hbs] at hnone
  · rintro ⟨a, ha, hunwritten⟩
    by_contra hread
    obtain ⟨bs, hbs⟩ := Option.ne_none_iff_exists'.mp hread
    obtain ⟨hcount, hbytes⟩ := Memory.readSeq_spec hbs
    have hshort : bs.length ≤ a := by simpa [hunwritten] using hbytes a ha
    omega

/-- CKS on a match with a slot that holds no value faults (U8; log 7). -/
theorem execCks_of_unwritten {s : State} (hread : s.params.readSeq s.paramsLen.toNat = none) :
    execCks s.runningChecksum s = .fault .unwrittenSlot := by
  simp [execCks, State.cksMatch, hread]

/-- The operation is PARAM, and the slot it appends to does not exist (R52, R29). -/
def AppendsOutOfRange (i : Instr) (s : State) : Prop := (∃ b, i = .param b) ∧ 254 ≤ s.paramsLen.toNat

/-- The operation is CKS on a match, and a slot it copies out holds no value (R42, U8). -/
def CopiesUnwritten (i : Instr) (s : State) : Prop :=
  i = .cks s.runningChecksum ∧ ∃ a, a < s.paramsLen.toNat ∧ Memory.read s.params a = none

/-- What an operation can do: stop in one of the three ways, where the way's own condition holds, or answer a state where none
of the three does. -/
theorem exec_stops_or_answers (i : Instr) (s : State) :
    (exec i s = .refused .internalInconsistency ∧ ∃ b, i = .illstate b) ∨
    (exec i s = .fault .paramsOutOfRange ∧ AppendsOutOfRange i s) ∨
    (exec i s = .fault .unwrittenSlot ∧ CopiesUnwritten i s) ∨
    ((∃ t, exec i s = .next t) ∧ (∀ b, i ≠ .illstate b) ∧ ¬ AppendsOutOfRange i s ∧ ¬ CopiesUnwritten i s) := by
  cases i with
  | illstate b => exact .inl ⟨rfl, b, rfl⟩
  | param b =>
    by_cases hfull : 254 ≤ s.paramsLen.toNat
    · exact .inr (.inl ⟨execParam_of_le hfull, ⟨b, rfl⟩, hfull⟩)
    · exact .inr (.inr (.inr ⟨⟨_, execParam_of_lt (Nat.not_le.mp hfull)⟩, nofun, fun h => hfull h.2, nofun⟩))
  | cks b =>
    by_cases hsum : b = s.runningChecksum
    · subst hsum
      cases hread : s.params.readSeq s.paramsLen.toNat with
      | none =>
        exact .inr (.inr (.inl ⟨execCks_of_unwritten hread, rfl, Memory.readSeq_eq_none_iff.mp hread⟩))
      | some ps =>
        have hheld : ¬ CopiesUnwritten (.cks s.runningChecksum) s := fun h => by
          simp [Memory.readSeq_eq_none_iff.mpr h.2] at hread
        exact .inr (.inr (.inr ⟨⟨_, execCks_of_match hread⟩, nofun, nofun, hheld⟩))
    · exact .inr (.inr (.inr ⟨⟨_, execCks_of_mismatch hsum⟩, nofun, nofun, fun h => hsum (Instr.cks.inj h.1)⟩))
  | len b =>
    by_cases hzero : b.toNat = 0
    · exact .inr (.inr (.inr ⟨⟨_, execLen_of_zero hzero⟩, nofun, nofun, nofun⟩))
    · exact .inr (.inr (.inr ⟨⟨_, execLen_of_ne_zero hzero⟩, nofun, nofun, nofun⟩))
  | skip | buserr | fmtCompact | fmtUnsup | fmtAddr | dst | src | sid | sidnameNeg | sidnameTp | sidnameTbl =>
    exact .inr (.inr (.inr ⟨⟨_, rfl⟩, nofun, nofun, nofun⟩))

/-- Settles O16: the four cases have different answers, and the conditions of the first three name different operations. -/
theorem stopsExactly : Obligations.StopsExactly := by
  unfold Obligations.StopsExactly
  intro i s
  rcases exec_stops_or_answers i s with ⟨hexec, b, rfl⟩ | ⟨hexec, ⟨b, rfl⟩, hfull⟩ | ⟨hexec, rfl, hslot⟩ |
    ⟨⟨t, hexec⟩, hill, happend, hcopy⟩
  · simp [hexec]
  · simp [hexec, hfull]
  · simp [hexec, hslot]
  · rw [hexec]
    exact ⟨iff_of_false nofun fun ⟨b, hb⟩ => hill b hb, iff_of_false nofun happend, iff_of_false nofun hcopy,
      iff_of_true ⟨t, rfl⟩ ⟨hill, happend, hcopy⟩⟩

/-! ### ILLSTATE and the events -/

/-- A consumed byte selects ILLSTATE in no phase, since no phase has code 7 (R21, R166). -/
theorem decodeConsumed_code_ne_illstate (p : Phase) (b b' : Byte) : decodeConsumed p.code b ≠ .illstate b' := by
  cases p with
  | format =>
    change decodeFormatByte b ≠ .illstate b'
    rcases decodeFormatByte_cases b with ⟨-, hop, -⟩ | ⟨-, hop⟩ | ⟨-, hop, -⟩ <;> rw [hop] <;> exact nofun
  | dstAddr | srcAddr | length | serviceId | params | checksum => exact nofun

/-- No event selects ILLSTATE in any phase (R166). -/
theorem decodeDispatch_dispatchWord_ne_illstate (skip : Bool) (p : Phase) (e : Event) (b : Byte) :
    decodeDispatch (dispatchWord skip p e) ≠ .illstate b := by
  rw [dispatchWord, decodeDispatch_mkDispatch]
  split
  · exact nofun
  · split
    · exact nofun
    · exact decodeConsumed_code_ne_illstate p e.byte b

/-- Settles O15: the probe's word is that of ILLSTATE, and only ILLSTATE is refused, which no event selects. -/
theorem illegalPhaseStops : Obligations.IllegalPhaseStops := by
  unfold Obligations.IllegalPhaseStops
  refine ⟨fun b s => rfl, fun b s hp => ?_, fun s e rest hp hi hrefused => ?_⟩
  · rw [step_probe hp, Probe.decode_phase7]
    rfl
  · rw [step_event hp hi] at hrefused
    obtain ⟨b, hop⟩ := (stopsExactly _ _).1.mp hrefused
    exact decodeDispatch_dispatchWord_ne_illstate _ _ _ _ hop

/-! ### Totality -/

/-- Settles O35: a probe that is not ILLSTATE's evaluates the name function, the idle step answers, and so does the step of an
event under the invariant. -/
theorem stepTotalOnInvariant : Obligations.StepTotalOnInvariant := by
  unfold Obligations.StepTotalOnInvariant
  intro s hinv hprobe
  cases hp : s.probe with
  | some p =>
    cases p with
    | sid8 b => exact ⟨_, (step_probe hp).trans (exec_decodeSid8 b _)⟩
    | phase7 b => exact absurd hp (hprobe b)
  | none =>
    cases hi : s.input with
    | nil => exact ⟨s, step_idle hp hi⟩
    | cons e rest => exact step_event_answers hinv hp hi

/-! ### Recovery -/

/-- A consumed byte that gives a frame or an error ends in `ResetContext()`, which leaves the skip counter (R37, R142, R163). -/
theorem State.Consumed.resets_of_emits {b : Byte} {s t : State} {o : Output} (h : s.Consumed b t)
    (hout : t.outputs = s.outputs ++ [o]) (ho : o ≠ .nothing) :
    ∃ u : State, t = u.resetContext ∧ u.skipRemaining = s.skipRemaining := by
  cases h with
  | fmtUnsup | lenZero | cksMatch | cksMismatch => exact ⟨_, rfl, rfl⟩
  | fmtCompact | fmtAddr | dst | src | len | sid | param => simp [ho.symm] at hout

/-- A step on an event that gives a frame or an error ends in `ResetContext()`, with nothing to skip. -/
theorem step_event_resets_of_emits {s t : State} {e : Event} {rest : List Event} {o : Output} (hp : s.probe = none)
    (hi : s.input = e :: rest) (h : step s = .next t) (hout : t.outputs = s.outputs ++ [o]) (ho : o ≠ .nothing) :
    ∃ u : State, t = u.resetContext ∧ u.skipRemaining = 0 := by
  rcases step_event_cases hp hi h with ⟨-, rfl⟩ | ⟨-, -, rfl⟩ | ⟨hskip, -, hc⟩
  · simp [ho.symm] at hout
  · simp [ho.symm] at hout
  · obtain ⟨u, hreset, hu⟩ := hc.resets_of_emits hout ho
    exact ⟨u, hreset, hu.trans hskip⟩

/-- With nothing to skip and no flag, a step runs the operation that the phase and the byte select (R85, R86). -/
theorem step_consumed_event {s : State} {e : Event} {rest : List Event} (hp : s.probe = none) (hi : s.input = e :: rest)
    (hskip : s.skipRemaining = 0) (herr : e.err = false) :
    step s = exec (decodeConsumed s.phase.code e.byte) (s.present e rest) := by
  have hactive : s.skipActive = false := by simp [State.skipActive, hskip]
  rw [step_event hp hi, dispatchWord, decodeDispatch_mkDispatch, hactive, herr]
  rfl

/-- Settles O37: an emission leaves the reset context in phase FORMAT, where an unflagged byte selects a FORMAT operation. -/
theorem recoveryAfterEmission : Obligations.RecoveryAfterEmission := by
  unfold Obligations.RecoveryAfterEmission
  intro s t e rest o hp hi hstep hout ho
  obtain ⟨hinput, hprobe, -⟩ := step_event_emits_one hp hi hstep
  obtain ⟨u, rfl, hskip⟩ := step_event_resets_of_emits hp hi hstep hout ho
  refine ⟨rfl, rfl, rfl, rfl, rfl, fun e' rest' hrest herr => ?_⟩
  exact step_consumed_event hprobe (hinput.trans hrest) hskip herr

end Sys2Proof.Machine
end

section
/-! PROOFS. Timestamps are copied and never inspected (91_not_in_source.md N4, 70_reset_and_hazards.md R207, O43): replacing
them commutes with each register update, with each operation, and so with a step. -/

namespace Sys2Proof.Machine

/-! ### Replaced timestamps and the registers -/

section
variable (f : Time → Time) (s : State)

@[simp] theorem State.mapTime_paramsLen : (s.mapTime f).paramsLen = s.paramsLen := rfl

@[simp] theorem State.mapTime_remainingLength : (s.mapTime f).remainingLength = s.remainingLength := rfl

@[simp] theorem State.mapTime_serviceId : (s.mapTime f).serviceId = s.serviceId := rfl

@[simp] theorem State.mapTime_runningChecksum : (s.mapTime f).runningChecksum = s.runningChecksum := rfl

@[simp] theorem State.mapTime_needLen : (s.mapTime f).needLen = s.needLen := rfl

@[simp] theorem State.mapTime_noParams : (s.mapTime f).noParams = s.noParams := rfl

@[simp] theorem State.mapTime_present (e : Event) (rest : List Event) :
    (s.mapTime f).present (e.mapTime f) (rest.map (Event.mapTime f)) = (s.present e rest).mapTime f := rfl

@[simp] theorem State.mapTime_goto (p : Phase) : (s.mapTime f).goto p = (s.goto p).mapTime f := rfl

@[simp] theorem State.mapTime_setLength (v : Byte) : (s.mapTime f).setLength v = (s.setLength v).mapTime f := rfl

@[simp] theorem State.mapTime_setDst (b : Byte) : (s.mapTime f).setDst b = (s.setDst b).mapTime f := rfl

@[simp] theorem State.mapTime_setSrc (b : Byte) : (s.mapTime f).setSrc b = (s.setSrc b).mapTime f := rfl

@[simp] theorem State.mapTime_setServiceId (b : Byte) :
    (s.mapTime f).setServiceId b = (s.setServiceId b).mapTime f := rfl

@[simp] theorem State.mapTime_storeParam (b : Byte) : (s.mapTime f).storeParam b = (s.storeParam b).mapTime f := rfl

@[simp] theorem State.mapTime_countSkip : (s.mapTime f).countSkip = s.countSkip.mapTime f := rfl

@[simp] theorem State.mapTime_cksAdd (b : Byte) : (s.mapTime f).cksAdd b = (s.cksAdd b).mapTime f := rfl

/-- `end_time` is copied from the event (R120). -/
@[simp] theorem State.mapTime_consume : (s.mapTime f).consume = s.consume.mapTime f := rfl

/-- `start_time` is copied from the event (R38). -/
@[simp] theorem State.mapTime_beginFrame : (s.mapTime f).beginFrame = s.beginFrame.mapTime f := rfl

@[simp] theorem State.mapTime_resetContext : (s.mapTime f).resetContext = s.resetContext.mapTime f := rfl

@[simp] theorem State.mapTime_logLookup (b : Byte) (n : Name) :
    (s.mapTime f).logLookup b n = (s.logLookup b n).mapTime f := rfl

theorem State.mapTime_emit (o : Output) : (s.mapTime f).emit (o.mapTime f) = (s.emit o).mapTime f := by
  simp [State.emit, State.mapTime]

@[simp] theorem State.mapTime_emit_nothing : (s.mapTime f).emit .nothing = (s.emit .nothing).mapTime f :=
  State.mapTime_emit f s .nothing

/-- An error copies the recorded start and the end of this event (R163). -/
@[simp] theorem State.mapTime_raise (k : ErrorKind) : (s.mapTime f).raise k = (s.raise k).mapTime f :=
  congrArg State.resetContext (State.mapTime_emit f s (.error ⟨k, s.startTime, s.evEnd⟩))

/-- A frame copies the recorded start and the end of this event (R83). -/
@[simp] theorem State.mapTime_emit_frame (t : State) (b : Byte) (ps : List Byte) :
    (t.mapTime f).emit (.frame ((s.mapTime f).decodedFrame b ps)) = (t.emit (.frame (s.decodedFrame b ps))).mapTime f :=
  State.mapTime_emit f t (.frame (s.decodedFrame b ps))

end

/-! ### Replaced timestamps and the operations -/

/-- Replace every timestamp of the state answered; a stop carries none. -/
def outcomeMapTime (f : Time → Time) : Host.Outcome State Fault Refusal → Host.Outcome State Fault Refusal
  | .next t => .next (t.mapTime f)
  | .fault r => .fault r
  | .refused r => .refused r

section
variable (f : Time → Time) (b : Byte) (s : State)

theorem execSrc_mapTime : execSrc b (s.mapTime f) = outcomeMapTime f (execSrc b s) := by
  rw [execSrc, execSrc, State.mapTime_needLen]
  simp [outcomeMapTime]

theorem execSid_mapTime : execSid b (s.mapTime f) = outcomeMapTime f (execSid b s) := by
  rw [execSid, execSid, State.mapTime_noParams]
  simp [outcomeMapTime]

theorem execLen_mapTime : execLen b (s.mapTime f) = outcomeMapTime f (execLen b s) := by
  by_cases hzero : b.toNat = 0
  · simp [execLen_of_zero hzero, outcomeMapTime]
  · simp [execLen_of_ne_zero hzero, outcomeMapTime]

theorem execParam_mapTime : execParam b (s.mapTime f) = outcomeMapTime f (execParam b s) := by
  by_cases hslot : s.paramsLen.toNat < paramMax
  · have hslot' : (s.mapTime f).paramsLen.toNat < paramMax := hslot
    rw [execParam_of_lt hslot, execParam_of_lt hslot', State.mapTime_paramsLen, State.mapTime_remainingLength]
    simp [outcomeMapTime]
  · have hfull := Nat.not_lt.mp hslot
    have hfull' : paramMax ≤ (s.mapTime f).paramsLen.toNat := hfull
    simp [execParam_of_le hfull, execParam_of_le hfull', outcomeMapTime]

/-- Neither the match nor the copy-out reads a timestamp. -/
theorem execCks_mapTime : execCks b (s.mapTime f) = outcomeMapTime f (execCks b s) := by
  by_cases hsum : b = s.runningChecksum
  · subst hsum
    cases hread : s.params.readSeq s.paramsLen.toNat with
    | none =>
      rw [execCks_of_unwritten hread]
      exact execCks_of_unwritten (s := s.mapTime f) hread
    | some ps =>
      rw [execCks_of_match hread]
      refine (execCks_of_match (s := s.mapTime f) hread).trans ?_
      simp [outcomeMapTime]
  · have hsum' : b ≠ (s.mapTime f).runningChecksum := hsum
    simp [execCks_of_mismatch hsum, execCks_of_mismatch hsum', outcomeMapTime]

end

/-- Every operation answers the same whatever the timestamps are, but for the timestamps themselves (N4). -/
theorem exec_mapTime (f : Time → Time) (i : Instr) (s : State) : exec i (s.mapTime f) = outcomeMapTime f (exec i s) := by
  cases i with
  | skip | buserr => simp [exec, execSkip, execBuserr, outcomeMapTime]
  | fmtCompact | fmtUnsup | fmtAddr => simp [exec, execFmtCompact, execFmtUnsup, execFmtAddr, outcomeMapTime]
  | dst b => simp [exec, execDst, outcomeMapTime]
  | src b => exact execSrc_mapTime f b s
  | sid b => exact execSid_mapTime f b s
  | len b => exact execLen_mapTime f b s
  | param b => exact execParam_mapTime f b s
  | cks b => exact execCks_mapTime f b s
  | illstate | sidnameNeg | sidnameTp | sidnameTbl => rfl

/-! ### Replaced timestamps and a step -/

/-- Neither the probe nor the dispatch word of an event holds a timestamp, so the same operation is taken up (R85). -/
theorem step_mapTime (f : Time → Time) (s : State) : step (s.mapTime f) = outcomeMapTime f (step s) := by
  cases hp : s.probe with
  | some p =>
    have hp' : (s.mapTime f).probe = some p := hp
    rw [step_probe hp, step_probe hp']
    exact exec_mapTime f p.decode { s with probe := none }
  | none =>
    have hp' : (s.mapTime f).probe = none := hp
    cases hi : s.input with
    | nil =>
      have hi' : (s.mapTime f).input = [] := congrArg (List.map (Event.mapTime f)) hi
      rw [step_idle hp hi, step_idle hp' hi']
      rfl
    | cons e rest =>
      have hi' : (s.mapTime f).input = e.mapTime f :: rest.map (Event.mapTime f) :=
        congrArg (List.map (Event.mapTime f)) hi
      rw [step_event hp hi, step_event hp' hi', State.mapTime_present]
      exact exec_mapTime f _ (s.present e rest)

/-- Settles O43: the step lemma, read off each of the three outcomes. -/
theorem timestampsOnlyCopied : Obligations.TimestampsOnlyCopied := by
  unfold Obligations.TimestampsOnlyCopied
  intro f s
  have hstep := step_mapTime f s
  cases hs : step s <;> rw [hs] at hstep <;> exact hstep

end Sys2Proof.Machine
end
